-- ==== Sys2Proof/Word.lean ====
section
/-! DEFINITION. The words of the KV-418: bytes of the custody link, custody clock values, board slots, and the plainest
arithmetic on them. -/

namespace Sys2Proof

/-- One byte of the custody link (R160). -/
abbrev Byte := BitVec 8

/-- A custody clock value: an unsigned 32-bit count of TU that wraps (R45). -/
abbrev Time := BitVec 32

/-- A board slot 0..31, which is also the number of its heartbeat line (00_scope 5.4). -/
abbrev Bd := Fin 32

end Sys2Proof
end

