-- ==== Sys2Proof/Syntax.lean ====
section
/-! DEFINITION. The commands of the KV-418: one constructor of Instr per row of spec/opcode_table.json, with the row's
operands. A request carries its link tag and its payload fields at the widths of R163; an event of the part carries the
board slot or heartbeat line it concerns. -/

namespace Sys2Proof

/-- A custody key: the pair (terminal, sequence), 48 bits (00_scope 5.4). -/
structure Key where
  terminal : BitVec 24
  sequence : BitVec 24
  deriving DecidableEq, Repr, Inhabited

/-- The fields of the TIMEBASE group (R47, R169). -/
structure Timebase where
  pre : Byte
  div : Byte
  vpt : Byte
  deriving DecidableEq, Repr, Inhabited

/-- The fields of a PROFILE group (R61, R169). -/
structure Profile where
  authFloor : BitVec 16
  authCeil : BitVec 16
  k : Byte
  settle : BitVec 24
  deriving DecidableEq, Repr, Inhabited

/-- The fields of the LATENCY group (R63, R169). -/
structure Latency where
  seedLat : BitVec 16
  gain : Byte
  deriving DecidableEq, Repr, Inhabited

/-- The fields of the WEIGHTS group (R95, R169). -/
structure Weights where
  wAuth : BitVec 16
  wSettle : BitVec 16
  wStall : BitVec 16
  wLost : BitVec 16
  wRacing : BitVec 16
  wXcheck : BitVec 16
  deriving DecidableEq, Repr, Inhabited

/-- The fields of the THRESHOLDS group: A, H, V and D (R100, R169). -/
structure Thresholds where
  alert : BitVec 16
  hysteresis : BitVec 16
  verdict : BitVec 16
  creditShift : Byte
  deriving DecidableEq, Repr, Inhabited

/-- The fields of the HEARTBEAT group (R90, R169). -/
structure Heartbeat where
  hbMin : BitVec 16
  hbMax : BitVec 16
  stallLimit : BitVec 24
  grace : Byte
  gdiv : Byte
  deriving DecidableEq, Repr, Inhabited

/-- The fields of the GUARD group (R131, R169). -/
structure Guard where
  maxDown : Byte
  ccPct : Byte
  xchkTol : BitVec 16
  deriving DecidableEq, Repr, Inhabited

/-- The fields of the TABLE group (R19, R169). -/
structure TableSettings where
  quota : BitVec 16
  highMark : BitVec 16
  deriving DecidableEq, Repr, Inhabited

/-- The fields of the MASKS group (R148, R169). -/
structure Masks where
  noticeMask : BitVec 16
  faultMask : Byte
  deriving DecidableEq, Repr, Inhabited

/-- The 17 setting bytes of SETWATCH as they are sent, from enable to the event set (R163). -/
structure WatchSettings where
  enable : Byte
  kind : Byte
  value : Key
  mask : Key
  low : Byte
  high : Byte
  events : Byte
  deriving DecidableEq, Repr, Inhabited

/-- The commands: every row of spec/opcode_table.json. -/
inductive Instr where
  /-- FRAME_ARRIVAL (R161): the receive line delivers these bytes; each frame they complete arrives. -/
  | frameArrival (bytes : List Byte)
  /-- LINK_CHECK (R162): the interface takes the frame at the head of the input buffer. -/
  | linkCheck
  | lodge (tag : Byte) (board : Byte) (key : Key) (cls : Byte) (routerTag : Option (BitVec 32))
  | advance (tag : Byte) (key : Key) (approval : BitVec 32)
  | release (tag : Byte) (key : Key) (outcome : Byte)
  | lookup (tag : Byte) (key : Key)
  | peek (tag : Byte) (slot : BitVec 16)
  | enrol (tag : Byte) (board : Byte)
  | reinstate (tag : Byte) (board : Byte)
  | retire (tag : Byte) (board : Byte)
  | declare (tag : Byte) (board : Byte)
  | absolve (tag : Byte) (board : Byte)
  | take (tag : Byte) (board : Byte) (n : Byte)
  | purge (tag : Byte) (board : Byte)
  | report (tag : Byte) (board : Byte) (count : BitVec 16)
  | board (tag : Byte) (slot : Byte)
  | device (tag : Byte) (part : Byte)
  | setgroupTimebase (tag : Byte) (fields : Timebase)
  | setgroupProfile (tag : Byte) (cls : Fin 4) (fields : Profile)
  | setgroupLatency (tag : Byte) (fields : Latency)
  | setgroupWeights (tag : Byte) (fields : Weights)
  | setgroupThresholds (tag : Byte) (fields : Thresholds)
  | setgroupHeartbeat (tag : Byte) (fields : Heartbeat)
  | setgroupGuard (tag : Byte) (fields : Guard)
  | setgroupTable (tag : Byte) (fields : TableSettings)
  | setgroupMasks (tag : Byte) (fields : Masks)
  | getgroup (tag : Byte) (group : Byte)
  | setwatch (tag : Byte) (unit : Byte) (settings : WatchSettings)
  | notice (tag : Byte)
  | test (tag : Byte) (inject : Byte)
  | clear (tag : Byte)
  | ident (tag : Byte)
  /-- PIN_RESET (R20, R58, R91, R132, R141, R149): RESET_N goes low. -/
  | pinReset
  /-- TU_STEP (R44): one TU ends. -/
  | tuStep
  | passStart
  | sweepVisit
  | graceExpiry (board : Bd)
  /-- PULSE (R102): a qualified rise on heartbeat line n. -/
  | pulse (line : Bd)
  | lostExpiry (board : Bd)
  | stallExpiry (board : Bd)
  /-- RESET_N_RELEASED (R161): RESET_N returns high. -/
  | resetNReleased
  deriving DecidableEq, Repr

end Sys2Proof
end

