-- ==== Sys2Proof/Decode.lean ====
section
/-! DEFINITION. The command that a table word spells. No row of spec/opcode_table.json gives bits (each row's fields list
is empty), so no word spells a command. What the bytes of a request frame stand for is Machine/Link.lean's parseFrame. -/

namespace Sys2Proof

/-- No row of the table gives bits: every word spells none. -/
def decodeTableWord (_nbits _w : Nat) : Option Instr := none

end Sys2Proof
end

