-- ==== Sys2Proof/Config.lean ====
section
/-! DEFINITION. What one implementation of the KV-418 fixes: the constants the spec states, and the free values it leaves
open (opaque constants without a body: nothing can be proved of their values). -/

namespace Sys2Proof.Config

/-- Record slots of the Custody Table (R1). -/
abbrev recordSlots : Nat := 8192

/-- Frames the input buffer holds at most (R161). -/
abbrev bufferFrames : Nat := 16

/-- READY is deasserted from this many buffered frames (R161). -/
abbrev readyLimit : Nat := 12

/-- Part code of IDENT and of the JTAG identification register (R170, R171). -/
def partCode : BitVec 16 := 0x0418

/-- FREE VALUE: the silicon revision that IDENT and the JTAG register report (R170, R171); the spec gives no value
(DESIGN CHOICE, log 15; safe). -/
opaque siliconRevision : Byte

/-- The JTAG identification register: part code and silicon revision (R171). It reaches no other state. -/
def jtagIdentification : BitVec 16 × Byte := (partCode, siliconRevision)

/-- FREE VALUE: whether the check code of a group's earlier contents also passes for other contents (R154 does not give
the code's algorithm). codePasses g old new is asked only where old and new differ: a code computed over the contents
themselves always passes (DESIGN CHOICE, log 13; safe). -/
opaque codePasses : Nat → List Byte → List Byte → Bool

/-- FREE VALUE: whether a FREE slot's readback equals the pattern written (R158): the n-th draw, the slot, and whether the
pattern is the complement (DESIGN CHOICE, log 14; safe). -/
opaque patternReadsBack : Nat → Nat → Bool → Bool

end Sys2Proof.Config
end

