-- ==== Sys2Proof/Machine/State.lean ====
section
/-! DEFINITION. The state of the KV-418, block by block, as plain data, and the state right after reset. INVENTORY.md
lists every piece of it with the rule that names it. -/

namespace Sys2Proof.Machine

/-! ## The Custody Link Interface -/

/-- A request frame as it arrived (R160, R161): the length byte and, unless it is over-long, the payload and the two CRC
bytes as received. -/
structure Frame where
  code : Byte
  tag : Byte
  len : Byte
  payload : List Byte
  crc : BitVec 16
  deriving DecidableEq, Repr

/-- The frame receiver (R161): HUNTING; HEADER, as far as it has come; BODY, with the bytes it has so far. -/
inductive Receiver where
  | hunting
  | awaitCode
  | awaitTag (code : Byte)
  | awaitLength (code tag : Byte)
  | body (code tag len : Byte) (got : List Byte)
  deriving DecidableEq, Repr

/-- The outcomes of a response (R164). -/
inductive OutcomeCode where
  | accepted | acceptedDoubt | late | releasedHeld | found | slot | status | group | notice | none
  | halted | outOfRange | boardState | profileInvalid | duplicate | overQuota | full | notFound | held | wrongStage
  | downLimit | busy | frameCheck | badCode | badLength
  deriving DecidableEq, Repr

/-- A response frame, less its start byte, length and CRC, which follow from these (R160). -/
structure Response where
  code : Byte
  tag : Byte
  outcome : OutcomeCode
  payload : List Byte
  deriving DecidableEq, Repr

/-! ## The Custody Table -/

/-- The overdue time and the excused field of the current stage, which are present together (R2). -/
structure Overdue where
  time : Time
  excused : Bool
  deriving DecidableEq, Repr

/-- The payload of a custody record (R2). An absent watch set is the empty one. -/
structure Payload where
  key : Key
  cls : Fin 4
  lodgeTime : Time
  deadline : Time
  decision : Option (BitVec 32)
  routerTag : Option (BitVec 32)
  lateAuth : Bool
  lateSettle : Bool
  overdue : Option Overdue
  watchSet : BitVec 4
  deriving DecidableEq, Repr

/-- The stage of a record that is not damaged (R1). -/
inductive Stage where
  | lodged
  | decided
  deriving DecidableEq, Repr

/-- What a slot that is not FREE holds (R1): a LODGED or DECIDED record with its board link, payload and stored parity
code; a DAMAGED record, whose payload and code stay in the slot until it is retired (R2) and are never read again (R4,
R151); or an unattributed DAMAGED slot, found faulty while FREE, with an empty link (R10) and no payload of any record
(DESIGN CHOICE, log 16). -/
inductive Slot where
  | record (stage : Stage) (link : Bd) (payload : Payload) (parity : Bool)
  | damaged (link : Bd) (payload : Payload) (parity : Bool)
  | unattributed
  deriving DecidableEq, Repr

/-! ## The Aging Sweep -/

/-- Where the sweep stands between passes and within one (R49, R58, R59): the clock value from which the next pass start
is due, or the clock value T at which the pass in progress started. -/
inductive Pass where
  | awaiting (due : Time)
  | running (began : Time)
  deriving DecidableEq, Repr

/-! ## The Board Table and the Heartbeat Monitor -/

/-- The six board states (R75, section 5.2). -/
inductive BoardState where
  | absent | warming | live | doubtful | silent | drained
  deriving DecidableEq, Repr

/-- A board record (R75). Its last pulse field is the line's (R102). An optional timer is disarmed when absent. -/
structure Board where
  state : BoardState
  score : Nat
  latency : Nat
  outstanding : Nat
  damaged : Nat
  releases : BitVec 16
  charges : Nat
  baseline : Option (BitVec 16)
  graceEnd : Option Time
  stallExpiry : Option Time
  lastProgress : Option Time
  lostExpiry : Option Time
  heard : Bool
  pending : Bool
  verdictTime : Option Time
  deriving DecidableEq, Repr

/-- The Heartbeat Monitor's record of one line (R102). -/
structure Line where
  lastPulse : Option Time
  intervalArmed : Bool
  deriving DecidableEq, Repr

/-- The test record (R76). -/
structure TestRecord where
  state : BoardState
  score : Nat
  charges : Nat
  pending : Bool
  deriving DecidableEq, Repr

/-- The six kinds of evidence (section 6.1). -/
inductive Evidence where
  | authOver | settleOver | stall | lost | racing | xcheck
  deriving DecidableEq, Repr

/-! ## The Verdict Unit -/

/-- The withhold causes (R119). -/
inductive Cause where
  | common | param | limit
  deriving DecidableEq, Repr

/-! ## The Watch Units -/

inductive WatchKind where
  | key | board | range
  deriving DecidableEq, Repr

/-- The six watch events, in the bit order of the event set (R138, R163). -/
inductive WatchEvent where
  | lodge | advance | overdue | release | hold | take
  deriving DecidableEq, Repr

/-- A watch unit's settings (R135). -/
structure WatchUnit where
  enable : Bool
  kind : WatchKind
  value : Key
  mask : Key
  low : Bd
  high : Bd
  events : BitVec 6
  deriving DecidableEq, Repr

/-! ## The Notice Unit -/

/-- The structure whose check failed (R143, R152). -/
inductive Structure where
  | keyIndex
  | custodyList (board : Bd)
  deriving DecidableEq, Repr

inductive VerdictPath where
  | automatic | declared
  deriving DecidableEq, Repr

inductive CommonChange where
  | entry | exit
  deriving DecidableEq, Repr

/-- What carried a board across A (R143): an item of evidence, or a THRESHOLDS re-evaluation. -/
inductive DoubtItem where
  | item (kind : Evidence)
  | thresholds
  deriving DecidableEq, Repr

inductive TestResult where
  | none | pass | fail | aborted
  deriving DecidableEq, Repr

/-- The causes of a self-test result (section 10.4). -/
structure TestCauses where
  group : Bool
  compare : Bool
  memory : Bool
  injected : Bool
  deriving DecidableEq, Repr

structure HaltedLatch where
  time : Time
  what : Structure
  deriving DecidableEq, Repr

structure ParamLatch where
  time : Time
  groups : BitVec 16
  deriving DecidableEq, Repr

structure VerdictLatch where
  time : Time
  path : VerdictPath
  deriving DecidableEq, Repr

structure CommonLatch where
  time : Time
  change : CommonChange
  again : Bool
  deriving DecidableEq, Repr

structure WithheldLatch where
  time : Time
  cause : Cause
  deriving DecidableEq, Repr

structure DoubtLatch where
  time : Time
  item : DoubtItem
  deriving DecidableEq, Repr

structure HeartbeatLatch where
  time : Time
  lost : Bool
  racing : Bool
  deriving DecidableEq, Repr

structure DamageLatch where
  time : Time
  slot : Nat
  board : Option Bd
  count : Nat
  deriving DecidableEq, Repr

structure TableHighLatch where
  time : Time
  occupancy : Nat
  deriving DecidableEq, Repr

structure TestDoneLatch where
  time : Time
  result : TestResult
  causes : TestCauses
  deriving DecidableEq, Repr

structure WatchLatch where
  time : Time
  event : WatchEvent
  slot : Nat
  board : Bd
  key : Key
  overrun : Bool
  deriving DecidableEq, Repr

structure LinkLatch where
  time : Time
  count : Nat
  deriving DecidableEq, Repr

/-- The 139 latches (R142): a clear latch is none, a set one holds its set time and content (R143). -/
structure Latches where
  halted : Option HaltedLatch
  paramFault : Option ParamLatch
  verdict : Vector (Option VerdictLatch) 32
  common : Option CommonLatch
  withheld : Vector (Option WithheldLatch) 32
  doubt : Vector (Option DoubtLatch) 32
  heartbeat : Vector (Option HeartbeatLatch) 32
  damage : Option DamageLatch
  tableHigh : Option TableHighLatch
  testDone : Option TestDoneLatch
  watch : Vector (Option WatchLatch) 4
  link : Option LinkLatch
  deriving DecidableEq, Repr

/-! ## The Parameter Table -/

/-- A parameter group (R154): its stored fields, its check code and its valid flag. The code is held as the contents it
was computed over (log 13). -/
structure Group (α : Type) where
  fields : α
  codeOver : α
  valid : Bool
  deriving DecidableEq, Repr

/-- A group just written: the code is computed over the fields, and the group is valid (R154). -/
def Group.written {α : Type} (fields : α) : Group α := ⟨fields, fields, true⟩

/-- The twelve groups (R169). -/
structure Groups where
  timebase : Group Timebase
  profiles : Vector (Group Profile) 4
  latency : Group Latency
  weights : Group Weights
  thresholds : Group Thresholds
  heartbeat : Group Heartbeat
  guard : Group Guard
  table : Group TableSettings
  masks : Group Masks
  deriving DecidableEq, Repr

/-! ## The Self-Test Unit -/

inductive TestPhase where
  | none | waiting | memory
  deriving DecidableEq, Repr

/-- The Self-Test Unit: its four items of state and the findings of the running test (section 10.4). -/
structure SelfTest where
  running : Bool
  phase : TestPhase
  result : TestResult
  causes : TestCauses
  inject : Bool
  invalidGroups : BitVec 16
  nA : Nat
  nV : Nat
  memoryFailures : Nat
  deriving DecidableEq, Repr

/-! ## The whole part -/

/-- The state of the part. Slots that are FREE are not listed in slots; slots and index are kept sorted by slot number and
by key number. -/
structure State where
  /-- the commands waiting, first in first out (the task's interface) -/
  pending : List Instr
  /-- RESET_N is low (R161, R171) -/
  resetHeld : Bool
  rx : Receiver
  buffer : List Frame
  tx : List Response
  /-- level of the READY pin -/
  ready : Bool
  slots : List (Nat × Slot)
  index : List (Nat × Nat)
  free : List Nat
  lists : Vector (List Nat) 32
  unattributed : List Nat
  occupancy : Nat
  tableHighArmed : Bool
  clock : Time
  /-- effective prescale code -/
  prescale : Nat
  /-- effective divider -/
  divider : Nat
  /-- configured visit rate, as its VPT code -/
  configuredVpt : Nat
  timebasePending : Bool
  sweepRunning : Bool
  sweepPosition : Nat
  /-- effective visit rate, as its VPT code -/
  effectiveVpt : Nat
  clamped : Bool
  pass : Pass
  boards : Vector Board 32
  testRecord : TestRecord
  effWeights : Weights
  effThresholds : Thresholds
  lines : Vector Line 32
  active : Nat
  doubtful : Nat
  down : Nat
  commonCause : Bool
  /-- the pending set: the withhold cause of each board in it (R117) -/
  withheld : Vector (Option Cause) 32
  units : Vector WatchUnit 4
  latches : Latches
  /-- effective notice mask -/
  noticeMask : BitVec 16
  /-- effective fault mask -/
  faultMask : Byte
  /-- level of the ATTN_N pin -/
  attnN : Bool
  /-- level of the FAULT_N pin -/
  faultN : Bool
  groups : Groups
  selfTest : SelfTest
  /-- the HALTED condition (R153) -/
  halted : Bool
  /-- the MODEL's own counter of free values drawn (log 14); not the spec's -/
  freeValues : Nat
  deriving DecidableEq, Repr

/-- No step of the KV-418 ends in a fault: what the spec calls a failure is a response, a damaged record or the HALTED
condition. The type has no constructor (safe: nothing is stopped). -/
inductive Fault where
  deriving DecidableEq, Repr

/-- Why a step is refused. Only a command whose meaning is not written yet is refused; every command has its meaning. -/
inductive Refusal where
  /-- raised by an arm of exec without a meaning (none is left); safe -/
  | notModelled (mnemonic : String)
  deriving DecidableEq, Repr

/-! ## Reset values -/

/-- A board record after pin reset (R91, R64). -/
def Board.reset : Board :=
  { state := .absent, score := 0, latency := 4000, outstanding := 0, damaged := 0, releases := 0, charges := 0
    baseline := none, graceEnd := none, stallExpiry := none, lastProgress := none, lostExpiry := none
    heard := false, pending := false, verdictTime := none }

/-- A line's record after pin reset (R102). -/
def Line.reset : Line := ⟨none, false⟩

/-- The test record after either reset (R76). -/
def TestRecord.reset : TestRecord := ⟨.absent, 0, 0, false⟩

/-- A watch unit after pin reset (R141). -/
def WatchUnit.reset : WatchUnit :=
  { enable := false, kind := .key, value := ⟨0, 0⟩, mask := ⟨BitVec.allOnes 24, BitVec.allOnes 24⟩
    low := 0, high := 0, events := 0 }

/-- Every latch clear (R149). -/
def Latches.clear : Latches :=
  { halted := none, paramFault := none, verdict := Vector.replicate 32 none, common := none
    withheld := Vector.replicate 32 none, doubt := Vector.replicate 32 none, heartbeat := Vector.replicate 32 none
    damage := none, tableHigh := none, testDone := none, watch := Vector.replicate 4 none, link := none }

/-- The twelve groups at their defaults, codes computed, all valid (R154, R169, section 4.1). -/
def Groups.defaults : Groups :=
  { timebase := .written ⟨2, 0, 3⟩
    profiles := #v[.written ⟨300, 8000, 12, 90000⟩, .written ⟨200, 5000, 12, 20000⟩,
      .written ⟨400, 10000, 16, 60000⟩, .written ⟨300, 8000, 12, 180000⟩]
    latency := .written ⟨250, 3⟩
    weights := .written ⟨64, 128, 96, 256, 32, 192⟩
    thresholds := .written ⟨512, 128, 1024, 4⟩
    heartbeat := .written ⟨50, 1500, 5000, 40, 2⟩
    guard := .written ⟨4, 25, 4⟩
    table := .written ⟨512, 7168⟩
    masks := .written ⟨4095, 31⟩ }

def TestCauses.empty : TestCauses := ⟨false, false, false, false⟩

/-- The Self-Test Unit after pin reset (section 10.4, R159); the findings are 0 (DESIGN CHOICE, log 30). -/
def SelfTest.reset : SelfTest :=
  { running := false, phase := .none, result := .none, causes := .empty, inject := false
    invalidGroups := 0, nA := 0, nV := 0, memoryFailures := 0 }

/-- The n slots from lo on, ascending. -/
def slotsFrom : Nat → Nat → List Nat
  | _, 0 => []
  | lo, n + 1 => lo :: slotsFrom (lo + 1) n

/-- The part while RESET_N is held low (R20, R58, R91, R115, R132, R141, R149, R154, R159, R161). -/
def State.held : State :=
  { pending := [], resetHeld := true, rx := .hunting, buffer := [], tx := [], ready := false
    slots := [], index := [], free := slotsFrom 0 Config.recordSlots, lists := Vector.replicate 32 []
    unattributed := [], occupancy := 0, tableHighArmed := true
    clock := 0, prescale := 2, divider := 0, configuredVpt := 3, timebasePending := false
    sweepRunning := true, sweepPosition := 0, effectiveVpt := 3, clamped := false, pass := .awaiting 0
    boards := Vector.replicate 32 Board.reset, testRecord := .reset
    effWeights := ⟨64, 128, 96, 256, 32, 192⟩, effThresholds := ⟨512, 128, 1024, 4⟩
    lines := Vector.replicate 32 Line.reset
    active := 0, doubtful := 0, down := 0, commonCause := false, withheld := Vector.replicate 32 none
    units := Vector.replicate 4 WatchUnit.reset
    latches := .clear, noticeMask := 4095, faultMask := 31, attnN := true, faultN := true
    groups := .defaults, selfTest := .reset, halted := false, freeValues := 0 }

/-- The machine right after reset: a pin reset has been taken and RESET_N has returned high (log 9), so READY is asserted
(R161) and the first pass start is due at clock 0 (R58). -/
def State.reset : State := { State.held with resetHeld := false, ready := true }

end Sys2Proof.Machine
end

