-- ==== Sys2Proof/Machine/Ops.lean ====
section
/-! DEFINITION. The operations every block uses: bytes of the link, the past test, sorted maps for the slots and the key
index, and the named updates of State. -/

namespace Sys2Proof.Machine

/-! ## Bytes of the link (R160) -/

/-- n in k bytes, most significant byte first (R160). -/
def be : Nat → Nat → List Byte
  | 0, _ => []
  | k + 1, n => BitVec.ofNat 8 (n / 256 ^ k) :: be k n

/-- The number that bytes sent most significant first stand for (R160). -/
def ofBe (bytes : List Byte) : Nat := bytes.foldl (fun n b => n * 256 + b.toNat) 0

/-- A number from its bits, bit 0 first. -/
def ofBits (bits : List Bool) : Nat := bits.foldr (fun b n => 2 * n + b.toNat) 0

/-- A byte from its bits, bit 0 first. -/
def bitsByte (bits : List Bool) : Byte := BitVec.ofNat 8 (ofBits bits)

/-- One shift of the CRC register under x^16 + x^12 + x^5 + 1 (R160). -/
def crcShift (r : BitVec 16) : BitVec 16 := if r.msb then (r <<< 1) ^^^ 0x1021#16 else r <<< 1

/-- One byte enters the CRC register, most significant bit first (R160). -/
def crcByte (r : BitVec 16) (b : Byte) : BitVec 16 :=
  crcShift (crcShift (crcShift (crcShift (crcShift (crcShift (crcShift (crcShift
    (r ^^^ (b.zeroExtend 16 <<< 8)))))))))

/-- The CRC of a run of bytes: the register starts at FFFFh, no final inversion (R160). -/
def crc (bytes : List Byte) : BitVec 16 := bytes.foldl crcByte 0xFFFF#16

/-- The number of a key in key order: by terminal, then by sequence (00_scope 5.4). -/
def keyNumber (k : Key) : Nat := k.terminal.toNat * 2 ^ 24 + k.sequence.toNat

/-- A key as six bytes (R160). -/
def keyBytes (k : Key) : List Byte := be 3 k.terminal.toNat ++ be 3 k.sequence.toNat

/-- An optional time: its value, or zeros when absent (R166, R167). -/
def optTime (t : Option Time) : List Byte := be 4 (t.getD 0).toNat

/-! ## Time -/

/-- The past test (R46): t is past relative to d when (t - d) mod 2^32 is below 2^31. -/
def past (t d : Time) : Bool := decide ((t - d).toNat < 2 ^ 31)

/-- The clock value n TU after now, modulo 2^32. -/
def State.after (s : State) (n : Nat) : Time := s.clock + BitVec.ofNat 32 n

/-- clamp(x, lo, hi) of 00_scope 5.2. -/
def clamp (x lo hi : Nat) : Nat := if x < lo then lo else if hi < x then hi else x

/-! ## Sorted maps: lists of (number, value) with strictly rising numbers -/

/-- What a map holds at k. -/
def mapFind {α : Type} (k : Nat) : List (Nat × α) → Option α
  | [] => none
  | (j, a) :: rest => if j = k then some a else mapFind k rest

/-- A map with a at k. -/
def mapPut {α : Type} (k : Nat) (a : α) : List (Nat × α) → List (Nat × α)
  | [] => [(k, a)]
  | (j, b) :: rest =>
    if k < j then (k, a) :: (j, b) :: rest
    else if j = k then (k, a) :: rest
    else (j, b) :: mapPut k a rest

/-- A map without k. -/
def mapRemove {α : Type} (k : Nat) (m : List (Nat × α)) : List (Nat × α) := m.filter (fun e => e.1 != k)

/-- The canonical form: numbers strictly rising. -/
def mapWf {α : Type} : List (Nat × α) → Bool
  | [] => true
  | (j, _) :: rest => rest.all (fun e => decide (j < e.1)) && mapWf rest

/-- A number put in its place in an ascending list. -/
def insertAscending (n : Nat) : List Nat → List Nat
  | [] => [n]
  | m :: rest => if n < m then n :: m :: rest else if n = m then m :: rest else m :: insertAscending n rest

/-! ## The board slots -/

/-- The 32 board slots, ascending. -/
def allBoards : List Bd :=
  [0, 1, 2, 3, 4, 5, 6, 7, 8, 9, 10, 11, 12, 13, 14, 15, 16, 17, 18, 19, 20, 21, 22, 23, 24, 25, 26, 27, 28, 29, 30, 31]

/-- The four watch units, ascending. -/
def allUnits : List (Fin 4) := [0, 1, 2, 3]

/-- The board slot a byte names, if it lies in 0..31. -/
def toBd (b : Byte) : Option Bd := if h : b.toNat < 32 then some ⟨b.toNat, h⟩ else none

/-- The board record of slot b. -/
def State.board (s : State) (b : Bd) : Board := s.boards[b.val]'b.isLt

/-- The record of heartbeat line b. -/
def State.line (s : State) (b : Bd) : Line := s.lines[b.val]'b.isLt

/-- The custody list of board b. -/
def State.list (s : State) (b : Bd) : List Nat := s.lists[b.val]'b.isLt

/-- The withhold cause of board b, if it is in the pending set. -/
def State.cause (s : State) (b : Bd) : Option Cause := s.withheld[b.val]'b.isLt

/-- Watch unit u. -/
def State.unit (s : State) (u : Fin 4) : WatchUnit := s.units[u.val]'u.isLt

/-- What record slot n holds; none for a FREE slot. -/
def State.slot (s : State) (n : Nat) : Option Slot := mapFind n s.slots

/-! ## Named updates -/

/-- Board b's record changed by f. -/
def State.modifyBoard (s : State) (b : Bd) (f : Board → Board) : State :=
  { s with boards := s.boards.set b.val (f (s.board b)) b.isLt }

/-- Line b's record changed by f. -/
def State.modifyLine (s : State) (b : Bd) (f : Line → Line) : State :=
  { s with lines := s.lines.set b.val (f (s.line b)) b.isLt }

/-- Board b in the pending set with a cause, or out of it. -/
def State.setCause (s : State) (b : Bd) (c : Option Cause) : State :=
  { s with withheld := s.withheld.set b.val c b.isLt }

/-- Board b's custody list replaced. -/
def State.setList (s : State) (b : Bd) (l : List Nat) : State := { s with lists := s.lists.set b.val l b.isLt }

/-- Record slot n given new content. -/
def State.setSlot (s : State) (n : Nat) (x : Slot) : State := { s with slots := mapPut n x s.slots }

/-- The latches changed by f. -/
def State.modifyLatches (s : State) (f : Latches → Latches) : State := { s with latches := f s.latches }

/-- The parameter groups changed by f. -/
def State.modifyGroups (s : State) (f : Groups → Groups) : State := { s with groups := f s.groups }

/-- A response formed for the request with this code and tag, behind those formed before (R160, R162). -/
def State.answer (s : State) (code tag : Byte) (o : OutcomeCode) (payload : List Byte) : State :=
  { s with tx := s.tx ++ [⟨code, tag, o, payload⟩] }

/-! ## Codes used in payloads (R164) -/

/-- The outcome codes of R164. -/
def OutcomeCode.byte : OutcomeCode → Byte
  | .accepted => 0x00 | .acceptedDoubt => 0x01 | .late => 0x02 | .releasedHeld => 0x03 | .found => 0x04 | .slot => 0x05
  | .status => 0x06 | .group => 0x07 | .notice => 0x08 | .none => 0x09 | .halted => 0x10 | .outOfRange => 0x11
  | .boardState => 0x12 | .profileInvalid => 0x13 | .duplicate => 0x14 | .overQuota => 0x15 | .full => 0x16
  | .notFound => 0x17 | .held => 0x18 | .wrongStage => 0x19 | .downLimit => 0x1A | .busy => 0x1B | .frameCheck => 0x20
  | .badCode => 0x21 | .badLength => 0x22

/-- The bytes of a response frame on the transmit line (R160). -/
def Response.bytes (r : Response) : List Byte :=
  let covered := [r.code, r.tag, r.outcome.byte, BitVec.ofNat 8 r.payload.length] ++ r.payload
  0xA5 :: covered ++ be 2 (crc covered).toNat

def BoardState.byte : BoardState → Byte
  | .absent => 0 | .warming => 1 | .live => 2 | .doubtful => 3 | .silent => 4 | .drained => 5

def Cause.byte : Cause → Byte
  | .common => 1 | .param => 2 | .limit => 3

def Evidence.byte : Evidence → Byte
  | .authOver => 0 | .settleOver => 1 | .stall => 2 | .lost => 3 | .racing => 4 | .xcheck => 5

def DoubtItem.byte : DoubtItem → Byte
  | .item k => k.byte
  | .thresholds => 6

def WatchEvent.number : WatchEvent → Nat
  | .lodge => 0 | .advance => 1 | .overdue => 2 | .release => 3 | .hold => 4 | .take => 5

def TestPhase.number : TestPhase → Nat
  | .none => 0 | .waiting => 1 | .memory => 2

def TestResult.number : TestResult → Nat
  | .none => 0 | .pass => 1 | .fail => 2 | .aborted => 3

def TestCauses.byte (c : TestCauses) : Byte := bitsByte [c.group, c.compare, c.memory, c.injected]

def Stage.byte : Stage → Byte
  | .lodged => 1 | .decided => 2

/-- The stage code of a slot: 0 FREE, 1 LODGED, 2 DECIDED, 3 DAMAGED (R164). -/
def stageByte : Option Slot → Byte
  | none => 0
  | some (.record st _ _ _) => st.byte
  | some (.damaged _ _ _) | some .unattributed => 3

/-- A board as a byte; 255 for none (R166, R168). -/
def optBoardByte : Option Bd → Byte
  | none => 255
  | some b => BitVec.ofNat 8 b.val

/-! ## The group of answers that only name a field or a board -/

/-- OUT_OF_RANGE with the index of the first offending field (R23, R164). -/
def State.outOfRange (s : State) (code tag : Byte) (field : Byte) : State := s.answer code tag .outOfRange [field]

/-- BOARD_STATE with the board's state and outstanding count (R164). -/
def State.refuseBoardState (s : State) (code tag : Byte) (b : Bd) : State :=
  s.answer code tag .boardState ((s.board b).state.byte :: be 2 (s.board b).outstanding)

end Sys2Proof.Machine
end

