-- ==== Sys2Proof/Machine/Operands.lean ====
section
/-! DEFINITION. The operand forms: range tests of the requests' fields, the settings as the blocks use them (with the
substitutes of R155), and the byte layouts of the parameter groups (R169). The substitutes are applied whether or not the
group is marked invalid yet (DESIGN CHOICE, log 21): they change no value a SETGROUP can write. -/

namespace Sys2Proof.Machine

/-- The index of the first field whose test fails, fields in order. -/
def firstOffending : Nat → List Bool → Option Nat
  | _, [] => none
  | i, ok :: rest => if ok then firstOffending (i + 1) rest else some i

/-- n lies in lo..hi. -/
def inRange (n lo hi : Nat) : Bool := decide (lo ≤ n) && decide (n ≤ hi)

/-! ## Settings as used -/

/-- GAIN as used: 0 as 1, above 6 as 6 (R63). -/
def State.gain (s : State) : Nat := clamp s.groups.latency.fields.gain.toNat 1 6

/-- SEED_LAT as used: 0 as 1 (R63). -/
def State.seedLat (s : State) : Nat := max 1 s.groups.latency.fields.seedLat.toNat

/-- The estimate a board enters WARMING with: 16 × SEED_LAT (R64). -/
def State.seed (s : State) : Nat := 16 * s.seedLat

/-- The grace length GRACE × 2^(6 + GDIV), GRACE 0 as 1, GDIV above 3 as 3 (R80). -/
def State.graceLength (s : State) : Nat :=
  max 1 s.groups.heartbeat.fields.grace.toNat * 2 ^ (6 + min 3 s.groups.heartbeat.fields.gdiv.toNat)

/-- HB_MIN as used: 0 as 1 (R155). -/
def State.hbMin (s : State) : Nat := max 1 s.groups.heartbeat.fields.hbMin.toNat

/-- HB_MAX as used: at or below HB_MIN as HB_MIN + 1 (R155). -/
def State.hbMax (s : State) : Nat := max (s.hbMin + 1) s.groups.heartbeat.fields.hbMax.toNat

/-- STALL_LIMIT as used: 0 as 1 (R155). -/
def State.stallLimit (s : State) : Nat := max 1 s.groups.heartbeat.fields.stallLimit.toNat

/-- MAX_DOWN as used: 0 as 1, above 16 as 16 (R131). -/
def State.maxDown (s : State) : Nat := clamp s.groups.guard.fields.maxDown.toNat 1 16

/-- CC_PCT as used: above 100 as 100 (R131). -/
def State.ccPct (s : State) : Nat := min 100 s.groups.guard.fields.ccPct.toNat

/-- XCHK_TOL as used: above 1023 as 1023 (R131). -/
def State.xchkTol (s : State) : Nat := min 1023 s.groups.guard.fields.xchkTol.toNat

/-- QUOTA as used: 0 as 1, above 8192 as 8192 (R155). -/
def State.quota (s : State) : Nat := clamp s.groups.table.fields.quota.toNat 1 8192

/-- HIGH_MARK as used: below 257 as 257, above 8192 as 8192 (R155). -/
def State.highMark (s : State) : Nat := clamp s.groups.table.fields.highMark.toNat 257 8192

/-- The profile group of a class (R61). -/
def State.profile (s : State) (c : Fin 4) : Group Profile := s.groups.profiles[c.val]'c.isLt

/-- SETTLE of a class as used: 0 as 1 (R72). -/
def State.settle (s : State) (c : Fin 4) : Nat := max 1 (s.profile c).fields.settle.toNat

/-! ## Effective thresholds -/

/-- A, the alert level in force (R99). -/
def State.levelA (s : State) : Nat := s.effThresholds.alert.toNat

/-- H, the hysteresis in force (R99). -/
def State.levelH (s : State) : Nat := s.effThresholds.hysteresis.toNat

/-- V, the verdict level in force (R99). -/
def State.levelV (s : State) : Nat := s.effThresholds.verdict.toNat

/-- D, the credit shift in force (R99). -/
def State.shiftD (s : State) : Nat := s.effThresholds.creditShift.toNat

/-- The weight of one kind of evidence (R94). -/
def Weights.of (w : Weights) : Evidence → Nat
  | .authOver => w.wAuth.toNat
  | .settleOver => w.wSettle.toNat
  | .stall => w.wStall.toNat
  | .lost => w.wLost.toNat
  | .racing => w.wRacing.toNat
  | .xcheck => w.wXcheck.toNat

/-! ## The groups as bytes (R169) -/

def Timebase.bytes (g : Timebase) : List Byte := [g.pre, g.div, g.vpt]

def Profile.bytes (g : Profile) : List Byte :=
  be 2 g.authFloor.toNat ++ be 2 g.authCeil.toNat ++ [g.k] ++ be 3 g.settle.toNat

def Latency.bytes (g : Latency) : List Byte := be 2 g.seedLat.toNat ++ [g.gain]

def Weights.bytes (g : Weights) : List Byte :=
  be 2 g.wAuth.toNat ++ be 2 g.wSettle.toNat ++ be 2 g.wStall.toNat ++ be 2 g.wLost.toNat ++ be 2 g.wRacing.toNat
    ++ be 2 g.wXcheck.toNat

def Thresholds.bytes (g : Thresholds) : List Byte :=
  be 2 g.alert.toNat ++ be 2 g.hysteresis.toNat ++ be 2 g.verdict.toNat ++ [g.creditShift]

def Heartbeat.bytes (g : Heartbeat) : List Byte :=
  be 2 g.hbMin.toNat ++ be 2 g.hbMax.toNat ++ be 3 g.stallLimit.toNat ++ [g.grace, g.gdiv]

def Guard.bytes (g : Guard) : List Byte := [g.maxDown, g.ccPct] ++ be 2 g.xchkTol.toNat

def TableSettings.bytes (g : TableSettings) : List Byte := be 2 g.quota.toNat ++ be 2 g.highMark.toNat

def Masks.bytes (g : Masks) : List Byte := be 2 g.noticeMask.toNat ++ [g.faultMask]

/-! ## Check codes and valid flags (R154) -/

/-- The check code of a group agrees with its stored fields: it was computed over these very fields, or over others for
which the code happens to agree (a free value, log 13). -/
def codeOk {α : Type} [DecidableEq α] (number : Nat) (bytes : α → List Byte) (g : Group α) : Bool :=
  decide (g.codeOver = g.fields) || Config.codePasses number (bytes g.codeOver) (bytes g.fields)

/-- One group verified: a valid group whose code fails is marked invalid (R154). -/
def verifyGroup {α : Type} [DecidableEq α] (number : Nat) (bytes : α → List Byte) (g : Group α) : Group α :=
  { g with valid := g.valid && codeOk number bytes g }

/-- All twelve groups verified (R50 step 2, R157 phase 1). -/
def Groups.verify (g : Groups) : Groups :=
  { timebase := verifyGroup 0 Timebase.bytes g.timebase
    profiles := #v[verifyGroup 1 Profile.bytes g.profiles[0], verifyGroup 2 Profile.bytes g.profiles[1],
      verifyGroup 3 Profile.bytes g.profiles[2], verifyGroup 4 Profile.bytes g.profiles[3]]
    latency := verifyGroup 5 Latency.bytes g.latency
    weights := verifyGroup 6 Weights.bytes g.weights
    thresholds := verifyGroup 7 Thresholds.bytes g.thresholds
    heartbeat := verifyGroup 8 Heartbeat.bytes g.heartbeat
    guard := verifyGroup 9 Guard.bytes g.guard
    table := verifyGroup 10 TableSettings.bytes g.table
    masks := verifyGroup 11 Masks.bytes g.masks }

/-- The valid flags of groups 0 to 11, in order. -/
def Groups.valids (g : Groups) : List Bool :=
  [g.timebase.valid, g.profiles[0].valid, g.profiles[1].valid, g.profiles[2].valid, g.profiles[3].valid,
    g.latency.valid, g.weights.valid, g.thresholds.valid, g.heartbeat.valid, g.guard.valid, g.table.valid, g.masks.valid]

/-- Every one of the twelve groups is marked valid (R119). -/
def State.allValid (s : State) : Bool := s.groups.valids.all id

/-- The groups marked invalid now, bit n for group n. -/
def State.invalidSet (s : State) : BitVec 16 := BitVec.ofNat 16 (ofBits (s.groups.valids.map (!·)))

end Sys2Proof.Machine
end

