-- ==== Sys2Proof/Machine/Flags.lean ====
section
/-! DEFINITION. The flags the part raises: the notice latches with their repeats (R142, R143), the fault conditions
(R147), and the three output pins READY, ATTN_N and FAULT_N (R146, R147, R161). -/

namespace Sys2Proof.Machine

/-! ## Setting latches: an event sets a clear latch, a set one absorbs the repeat (R142, R143) -/

/-- HALTED: a repeat leaves the latch unchanged. -/
def State.latchHalted (s : State) (w : Structure) : State :=
  s.modifyLatches fun l => { l with halted := some (l.halted.getD ⟨s.clock, w⟩) }

/-- PARAM_FAULT: a repeat adds the newly failed groups to the set. -/
def State.latchParamFault (s : State) (failed : BitVec 16) : State :=
  s.modifyLatches fun l =>
    { l with paramFault := some (match l.paramFault with
        | none => ⟨s.clock, failed⟩
        | some p => { p with groups := p.groups ||| failed }) }

/-- VERDICT of board b: a repeat leaves the latch unchanged. -/
def State.latchVerdict (s : State) (b : Bd) (path : VerdictPath) : State :=
  s.modifyLatches fun l => { l with verdict := l.verdict.set b.val (some (l.verdict[b.val].getD ⟨s.clock, path⟩)) b.isLt }

/-- COMMON: a repeat sets changed again. -/
def State.latchCommon (s : State) (change : CommonChange) : State :=
  s.modifyLatches fun l =>
    { l with common := some (match l.common with
        | none => ⟨s.clock, change, false⟩
        | some c => { c with again := true }) }

/-- WITHHELD of board b: a repeat leaves the latch unchanged. -/
def State.latchWithheld (s : State) (b : Bd) (c : Cause) : State :=
  s.modifyLatches fun l => { l with withheld := l.withheld.set b.val (some (l.withheld[b.val].getD ⟨s.clock, c⟩)) b.isLt }

/-- DOUBT of board b: a repeat leaves the latch unchanged. -/
def State.latchDoubt (s : State) (b : Bd) (item : DoubtItem) : State :=
  s.modifyLatches fun l => { l with doubt := l.doubt.set b.val (some (l.doubt[b.val].getD ⟨s.clock, item⟩)) b.isLt }

/-- HEARTBEAT of board b, with LOST seen or RACING seen: a repeat sets its kind's flag. -/
def State.latchHeartbeat (s : State) (b : Bd) (lost racing : Bool) : State :=
  s.modifyLatches fun l =>
    { l with heartbeat := l.heartbeat.set b.val (some (match l.heartbeat[b.val] with
        | none => ⟨s.clock, lost, racing⟩
        | some h => { h with lost := h.lost || lost, racing := h.racing || racing })) b.isLt }

/-- DAMAGE with the slot and its board: a repeat raises the count, up to 255. -/
def State.latchDamage (s : State) (n : Nat) (b : Option Bd) : State :=
  s.modifyLatches fun l =>
    { l with damage := some (match l.damage with
        | none => ⟨s.clock, n, b, 1⟩
        | some d => { d with count := min 255 (d.count + 1) }) }

/-- TABLE_HIGH with the occupancy that crossed: a repeat leaves the latch unchanged. -/
def State.latchTableHigh (s : State) : State :=
  s.modifyLatches fun l => { l with tableHigh := some (l.tableHigh.getD ⟨s.clock, s.occupancy⟩) }

/-- TEST_DONE: a repeat replaces the result and causes and keeps the set time. -/
def State.latchTestDone (s : State) (r : TestResult) (c : TestCauses) : State :=
  s.modifyLatches fun l =>
    { l with testDone := some (match l.testDone with
        | none => ⟨s.clock, r, c⟩
        | some t => { t with result := r, causes := c }) }

/-- LINK: a repeat raises the count, up to 255 (R161). -/
def State.latchLink (s : State) : State :=
  s.modifyLatches fun l =>
    { l with link := some (match l.link with
        | none => ⟨s.clock, 1⟩
        | some k => { k with count := min 255 (k.count + 1) }) }

/-- WATCH of unit u: a repeat overwrites the latch and sets overrun (R139). -/
def State.latchWatch (s : State) (u : Fin 4) (e : WatchEvent) (n : Nat) (b : Bd) (k : Key) : State :=
  s.modifyLatches fun l =>
    { l with watch := l.watch.set u.val (some ⟨s.clock, e, n, b, k, l.watch[u.val].isSome⟩) u.isLt }

/-! ## The latches in fetch order -/

/-- One of the 139 latches (R142). -/
inductive LatchRef where
  | halted | paramFault
  | verdict (b : Bd)
  | common
  | withheld (b : Bd)
  | doubt (b : Bd)
  | heartbeat (b : Bd)
  | damage | tableHigh | testDone
  | watch (u : Fin 4)
  | link
  deriving DecidableEq, Repr

/-- The priority number of a latch's kind (R142). -/
def LatchRef.priority : LatchRef → Nat
  | .halted => 1 | .paramFault => 2 | .verdict _ => 3 | .common => 4 | .withheld _ => 5 | .doubt _ => 6
  | .heartbeat _ => 7 | .damage => 8 | .tableHigh => 9 | .testDone => 10 | .watch _ => 11 | .link => 12

/-- All 139 latches in the order NOTICE fetches them: by priority, then by board slot or unit (R144). -/
def latchOrder : List LatchRef :=
  [.halted, .paramFault] ++ allBoards.map .verdict ++ [.common] ++ allBoards.map .withheld ++ allBoards.map .doubt
    ++ allBoards.map .heartbeat ++ [.damage, .tableHigh, .testDone] ++ allUnits.map .watch ++ [.link]

/-- A latch is set. -/
def Latches.isSet (l : Latches) : LatchRef → Bool
  | .halted => l.halted.isSome
  | .paramFault => l.paramFault.isSome
  | .verdict b => l.verdict[b.val].isSome
  | .common => l.common.isSome
  | .withheld b => l.withheld[b.val].isSome
  | .doubt b => l.doubt[b.val].isSome
  | .heartbeat b => l.heartbeat[b.val].isSome
  | .damage => l.damage.isSome
  | .tableHigh => l.tableHigh.isSome
  | .testDone => l.testDone.isSome
  | .watch u => l.watch[u.val].isSome
  | .link => l.link.isSome

/-- One latch cleared (R144). -/
def Latches.cleared (l : Latches) : LatchRef → Latches
  | .halted => { l with halted := none }
  | .paramFault => { l with paramFault := none }
  | .verdict b => { l with verdict := l.verdict.set b.val none b.isLt }
  | .common => { l with common := none }
  | .withheld b => { l with withheld := l.withheld.set b.val none b.isLt }
  | .doubt b => { l with doubt := l.doubt.set b.val none b.isLt }
  | .heartbeat b => { l with heartbeat := l.heartbeat.set b.val none b.isLt }
  | .damage => { l with damage := none }
  | .tableHigh => { l with tableHigh := none }
  | .testDone => { l with testDone := none }
  | .watch u => { l with watch := l.watch.set u.val none u.isLt }
  | .link => { l with link := none }

/-! ## Fault conditions (R147) -/

/-- SILENT: some board is SILENT. -/
def State.faultSilent (s : State) : Bool := allBoards.any fun b => decide ((s.board b).state = .silent)

/-- A slot's content is DAMAGED. -/
def Slot.isDamaged : Slot → Bool
  | .record _ _ _ _ => false
  | .damaged _ _ _ | .unattributed => true

/-- The number of DAMAGED slots, attributed and unattributed (R145). -/
def State.damagedSlots (s : State) : Nat := (s.slots.filter fun e => e.2.isDamaged).length

/-- DAMAGE: some slot is DAMAGED. -/
def State.faultDamage (s : State) : Bool := s.slots.any fun e => e.2.isDamaged

/-- The five fault conditions in bit order SILENT, COMMON, HALTED, PARAM, DAMAGE (R147, R148). -/
def State.faultConditions (s : State) : List Bool :=
  [s.faultSilent, s.commonCause, s.halted, !s.allValid, s.faultDamage]

/-! ## The output pins -/

/-- ATTN_N is asserted: a latch is set whose kind the effective notice mask enables (R146, bit k - 1 for priority k). -/
def State.attnAsserted (s : State) : Bool :=
  latchOrder.any fun r => s.latches.isSet r && s.noticeMask.getLsbD (r.priority - 1)

/-- FAULT_N is asserted: a condition holds that the effective fault mask enables (R147). -/
def State.faultAsserted (s : State) : Bool :=
  (s.faultConditions.zipIdx).any fun c => c.1 && s.faultMask.getLsbD c.2

/-- ATTN_N and FAULT_N driven anew, active low (R146, R147). -/
def State.driveLines (s : State) : State := { s with attnN := !s.attnAsserted, faultN := !s.faultAsserted }

/-- READY driven anew: high while the buffer holds 11 frames or fewer (R161). -/
def State.driveReady (s : State) : State := { s with ready := decide (s.buffer.length < Config.readyLimit) }

/-! ## Entering HALTED (R153) -/

/-- A structure failure: the sweep stops, HALTED is latched with the structure, and the HALTED condition holds. -/
def State.enterHalted (s : State) (w : Structure) : State :=
  { s.latchHalted w with halted := true, sweepRunning := false }

end Sys2Proof.Machine
end

