-- ==== Sys2Proof/Machine/Watch.lean ====
section
/-! DEFINITION. The Watch Units: pairing, matching at lodging, and the events offered to the units (R135 to R139). -/

namespace Sys2Proof.Machine

/-- Units 0 and 1 are paired: unit 0 is of kind RANGE (R136). -/
def State.paired (s : State) : Bool := decide ((s.unit 0).kind = .range)

/-- The pair's range is empty: the low key lies above the high key (R136). -/
def State.rangeEmpty (s : State) : Bool := decide (keyNumber (s.unit 1).value < keyNumber (s.unit 0).value)

/-- Under KEY, the key agrees with the key value wherever the mask selects (R137). -/
def WatchUnit.matchesKey (u : WatchUnit) (k : Key) : Bool :=
  decide ((k.terminal ^^^ u.value.terminal) &&& u.mask.terminal = 0#24)
    && decide ((k.sequence ^^^ u.value.sequence) &&& u.mask.sequence = 0#24)

/-- Unit u matches a new record of this key and board (R137). -/
def State.unitMatches (s : State) (k : Key) (b : Bd) (u : Fin 4) : Bool :=
  (s.unit u).enable && !(decide (u = 1) && s.paired) &&
    match (s.unit u).kind with
    | .key => (s.unit u).matchesKey k
    | .board => decide ((s.unit u).low ≤ b) && decide (b ≤ (s.unit u).high)
    | .range => decide (u = 0) && decide (keyNumber (s.unit 0).value ≤ keyNumber k)
        && decide (keyNumber k ≤ keyNumber (s.unit 1).value)

/-- The watch set of a new record, bit n for unit n (R137). -/
def State.matchSet (s : State) (k : Key) (b : Bd) : BitVec 4 :=
  BitVec.ofNat 4 (ofBits (allUnits.map (s.unitMatches k b)))

/-- Unit u latches event e: it is enabled, holds e in its event set, and is not unit 1 of a pair (R138). -/
def State.unitLatches (s : State) (e : WatchEvent) (u : Fin 4) : Bool :=
  (s.unit u).enable && (s.unit u).events.getLsbD e.number && !(decide (u = 1) && s.paired)

/-- Event e of the record in slot n of board b, offered to the units of its watch set (R138, R139). -/
def State.offer (s : State) (e : WatchEvent) (n : Nat) (b : Bd) (k : Key) (watchSet : BitVec 4) : State :=
  allUnits.foldl (fun t u => if watchSet.getLsbD u.val && t.unitLatches e u then t.latchWatch u e n b k else t) s

end Sys2Proof.Machine
end

