-- ==== Sys2Proof/Machine/Table.lean ====
section
/-! DEFINITION. The operations of the Custody Table: parity, creating, re-staging, damaging and retiring records, the
table-high test, and the structure tests (R5 to R17, R151, R152). A removal that empties a board's custody list reports to
the Board Table (R11), so the move from SILENT to DRAINED stands here too (R123). -/

namespace Sys2Proof.Machine

/-! ## Payload parity (R151) -/

/-- The parity of the lowest w bits of x. -/
def bitParity (x : Nat) : Nat → Bool
  | 0 => false
  | w + 1 => x.testBit w ^^ bitParity x w

/-- The parity of an optional word of w bits: its presence bit and its value. -/
def optParity (w : Nat) : Option Nat → Bool
  | none => false
  | some x => true ^^ bitParity x w

/-- The parity code of a payload: the parity of all its bits. R151 states that the code detects every odd number of
changed bits (DEDUCED: a single parity bit, log 12). -/
def parityOf (p : Payload) : Bool :=
  bitParity p.key.terminal.toNat 24 ^^ bitParity p.key.sequence.toNat 24 ^^ bitParity p.cls.val 2
    ^^ bitParity p.lodgeTime.toNat 32 ^^ bitParity p.deadline.toNat 32
    ^^ optParity 32 (p.decision.map (·.toNat)) ^^ optParity 32 (p.routerTag.map (·.toNat))
    ^^ p.lateAuth ^^ p.lateSettle ^^ optParity 32 (p.overdue.map (·.time.toNat))
    ^^ (p.overdue.map (·.excused)).getD false ^^ bitParity p.watchSet.toNat 4

/-- A payload reads clean: its stored parity code agrees with it. -/
def readsClean (p : Payload) (parity : Bool) : Bool := decide (parityOf p = parity)

/-- A record's payload written whole, with its parity (R151). -/
def State.writeRecord (s : State) (n : Nat) (st : Stage) (link : Bd) (p : Payload) : State :=
  s.setSlot n (.record st link p (parityOf p))

/-! ## The key index (R5, R6) -/

/-- The slot the key index gives for a key. -/
def State.lookupKey (s : State) (k : Key) : Option Nat := mapFind (keyNumber k) s.index

/-- The entry that names slot n removed (R6, R14). -/
def State.dropIndexOf (s : State) (n : Nat) : State := { s with index := s.index.filter fun e => e.2 != n }

/-! ## Occupancy and the table-high flag (R17) -/

/-- Occupancy rises by one; reaching HIGH_MARK with the flag set latches TABLE_HIGH and clears the flag. -/
def State.occupancyRise (s : State) : State :=
  let t := { s with occupancy := s.occupancy + 1 }
  if s.tableHighArmed && decide (t.highMark ≤ t.occupancy) then { t.latchTableHigh with tableHighArmed := false } else t

/-- Occupancy falls by one; below HIGH_MARK - 256 the flag is set. -/
def State.occupancyFall (s : State) : State :=
  let t := { s with occupancy := s.occupancy - 1 }
  if t.occupancy + 256 < t.highMark then { t with tableHighArmed := true } else t

/-! ## Damage (R15) -/

/-- A LODGED or DECIDED record of board b becomes DAMAGED: its index entry goes, it keeps its link, its place and the payload
in its slot (R2), the damaged count rises and DAMAGE is latched. The same is done while the device is HALTED, by a LOOKUP, a
PEEK or a grant's walk (DESIGN CHOICE, log 40). -/
def State.damageRecord (s : State) (n : Nat) (b : Bd) (p : Payload) (parity : Bool) : State :=
  (((s.setSlot n (.damaged b p parity)).dropIndexOf n).modifyBoard b fun x => { x with damaged := x.damaged + 1 }).latchDamage
    n (some b)

/-- A FREE slot found faulty leaves the free list and becomes an unattributed DAMAGED slot (R8, R158). -/
def State.damageFree (s : State) (n : Nat) : State :=
  ({ s.setSlot n .unattributed with
      free := s.free.erase n, unattributed := insertAscending n s.unattributed }).occupancyRise.latchDamage n none

/-! ## Board state changes and the counts (R77, R117, R118) -/

/-- WARMING, LIVE and DOUBTFUL are active. -/
def BoardState.isActive : BoardState → Bool
  | .warming | .live | .doubtful => true
  | .absent | .silent | .drained => false

/-- SILENT and DRAINED are down. -/
def BoardState.isDown : BoardState → Bool
  | .silent | .drained => true
  | .absent | .warming | .live | .doubtful => false

/-- DOUBTFUL is doubtful. -/
def BoardState.isDoubtful : BoardState → Bool
  | .doubtful => true
  | .absent | .warming | .live | .silent | .drained => false

/-- The count of the old state lowered and that of the new raised (R117). -/
def moveCount (n : Nat) (was is : Bool) : Nat := n + is.toNat - was.toNat

/-- When the common-cause state holds, for d doubtful of a active boards (R118). -/
def commonHolds (d a pct : Nat) : Bool := decide (pct ≠ 0) && decide (2 ≤ d) && decide (pct * a ≤ d * 100)

/-- Whether the common-cause state holds for the counts and CC_PCT as they stand (R118). -/
def State.commonNow (s : State) : Bool := commonHolds s.doubtful s.active s.ccPct

/-- The common-cause state re-evaluated; a change either way latches COMMON (R118). -/
def State.reevaluateCommon (s : State) : State :=
  if s.commonNow = s.commonCause then s
  else { s with commonCause := s.commonNow }.latchCommon (if s.commonNow then .entry else .exit)

/-- A move between two states changes neither the active nor the doubtful count (the table of section 7.1). -/
def BoardState.sameCounts (old new : BoardState) : Bool :=
  old.isActive == new.isActive && old.isDoubtful == new.isDoubtful

/-- The Board Table reports a change of state to the Verdict Unit, which moves its counts and, when the active or the doubtful
count changes, re-evaluates the common-cause state (R77, R117, R118). -/
def State.reportState (s : State) (old new : BoardState) : State :=
  let moved : State :=
    { s with
      active := moveCount s.active old.isActive new.isActive
      doubtful := moveCount s.doubtful old.isDoubtful new.isDoubtful
      down := moveCount s.down old.isDown new.isDown }
  if old.sameCounts new then moved else moved.reevaluateCommon

/-- Board b moved to a state, and the change reported (R77). -/
def State.setBoardState (s : State) (b : Bd) (new : BoardState) : State :=
  (s.modifyBoard b fun x => { x with state := new }).reportState (s.board b).state new

/-! ## Retiring (R11, R14, R123) -/

/-- Slot n leaves board b's custody list; a list left empty is reported: outstanding is 0, the stall timer is disarmed and
a SILENT board passes to DRAINED (R9, R11, R14, R108, R123). -/
def State.leaveList (s : State) (b : Bd) (n : Nat) (wasDamaged : Bool) : State :=
  let l := (s.list b).erase n
  let t := (s.setList b l).modifyBoard b fun x =>
    let o := if l.isEmpty then 0 else x.outstanding - 1
    { x with
      outstanding := o
      damaged := x.damaged - wasDamaged.toNat
      stallExpiry := if o = 0 then none else x.stallExpiry }
  if l.isEmpty && decide ((t.board b).state = .silent) then t.setBoardState b .drained else t

/-- Slot n becomes FREE at the tail of the free list, and occupancy falls (R7, R14, R17). -/
def State.freeSlot (s : State) (n : Nat) : State :=
  { s with slots := mapRemove n s.slots, free := s.free ++ [n] }.occupancyFall

/-- The record or damaged slot n retired whole (R14). The index entry is found by the slot (log 27). -/
def State.retire (s : State) (n : Nat) : State :=
  match s.slot n with
  | none => s
  | some (.record _ b _ _) => ((s.dropIndexOf n).leaveList b n false).freeSlot n
  | some (.damaged b _ _) => (s.leaveList b n true).freeSlot n
  | some .unattributed => { s with unattributed := s.unattributed.erase n }.freeSlot n

/-! ## The structure tests of the custody lists (R152) -/

/-- Slot n is LODGED, DECIDED or DAMAGED and its board link names b. -/
def State.linkedTo (s : State) (b : Bd) (n : Nat) : Bool :=
  match s.slot n with
  | some (.record _ l _ _) => decide (l = b)
  | some (.damaged l _ _) => decide (l = b)
  | some .unattributed => false
  | none => false

/-- The list's length agrees with the board's outstanding count. -/
def State.countAgrees (s : State) (b : Bd) : Bool := decide ((s.list b).length = (s.board b).outstanding)

/-- The slots of a list from its head as far as n. -/
def reachedTo (n : Nat) : List Nat → List Nat
  | [] => []
  | m :: rest => if m = n then [m] else m :: reachedTo n rest

/-- The tests of removing slot n from board b's list: the walk from the head reaches n, each slot reached is linked to b,
and a list left empty had the outstanding count's length (R152; the walk is a DESIGN CHOICE, log 23). -/
def State.removalSound (s : State) (b : Bd) (n : Nat) : Bool :=
  (s.list b).contains n && (reachedTo n (s.list b)).all (s.linkedTo b)
    && (!((s.list b).erase n).isEmpty || s.countAgrees b)

/-! ## Creating (R12) -/

/-- The free-list head taken for a new LODGED record of board b, its payload written, its index entry and list place made,
occupancy and outstanding raised, and the stall timer armed at a 0-to-1 rise in LIVE or DOUBTFUL (R12, R26). -/
def State.createRecord (s : State) (n : Nat) (rest : List Nat) (b : Bd) (p : Payload) : State :=
  let t := { s.writeRecord n .lodged b p with free := rest, index := mapPut (keyNumber p.key) n s.index }
  let u := (t.setList b (s.list b ++ [n])).occupancyRise
  u.modifyBoard b fun x =>
    { x with
      outstanding := x.outstanding + 1
      stallExpiry :=
        if x.outstanding = 0 ∧ (x.state = .live ∨ x.state = .doubtful) then some (s.after s.stallLimit)
        else x.stallExpiry }

end Sys2Proof.Machine
end

