-- ==== Sys2Proof/Machine/Verdict.lean ====
section
/-! DEFINITION. The Verdict Unit and the score: withholding and granting verdicts, the reconsideration of the pending set
(R117 to R123), charges and credits (R94, R97, R98), and the entry to WARMING (R79). -/

namespace Sys2Proof.Machine

/-! ## Withholding (R119) -/

/-- The first failing condition of R119, if any. -/
def State.withholdCause (s : State) : Option Cause :=
  if s.commonCause then some .common
  else if !s.allValid then some .param
  else if s.maxDown ≤ s.down then some .limit
  else none

/-- A board put in, or left in, the pending set with a cause, and WITHHELD latched (R119). -/
def State.withhold (s : State) (b : Bd) (c : Cause) : State :=
  ((s.modifyBoard b fun x => { x with pending := true }).setCause b (some c)).latchWithheld b c

/-- Board b out of the pending set (R120). -/
def State.clearPending (s : State) (b : Bd) : State :=
  (s.modifyBoard b fun x => { x with pending := false }).setCause b none

/-! ## The grant (R122) -/

/-- Step 4 of a grant: the walk of the custody list. Each slot is tested, each record read, and HOLD offered for each that
reads clean; a structure failure ends the walk in HALTED (R122, R152). The flag says the walk went through. -/
def State.holdWalk (b : Bd) : List Nat → State → State × Bool
  | [], s => (s, true)
  | n :: rest, s =>
    if s.linkedTo b n then
      match s.slot n with
      | some (.record _ _ p parity) =>
        if readsClean p parity then State.holdWalk b rest (s.offer .hold n b p.key p.watchSet)
        else State.holdWalk b rest (s.damageRecord n b p parity)
      | some (.damaged _ _ _) | some .unattributed => State.holdWalk b rest s
      | none => State.holdWalk b rest s
    else (s.enterHalted (.custodyList b), false)

/-- Step 1 of a grant: the board record and its line (R122). -/
def State.silence (s : State) (b : Bd) : State :=
  ((s.modifyBoard b fun x =>
    { x with
      state := .silent, verdictTime := some s.clock, pending := false
      graceEnd := none, stallExpiry := none, lostExpiry := none }).setCause b none).modifyLine b
        fun l => { l with intervalArmed := false }

/-- Steps 4 and 5 of a grant: the walk, the count test at its end, and draining when nothing is outstanding. A failed test
leaves the board SILENT (R122, R123, R152; log 24). -/
def State.holdRecords (s : State) (b : Bd) : State :=
  let w := State.holdWalk b (s.list b) s
  if !w.2 then w.1
  else if !w.1.countAgrees b then w.1.enterHalted (.custodyList b)
  else if (w.1.board b).outstanding = 0 then w.1.setBoardState b .drained
  else w.1

/-- A verdict granted to board b: record, counts, notice, held records, draining, in this order (R122). A request that leads
to a grant whose walk fails is answered as if the walk had gone through (DESIGN CHOICE, log 36). -/
def State.grantVerdict (s : State) (b : Bd) (path : VerdictPath) : State :=
  (((s.silence b).reportState (s.board b).state .silent).latchVerdict b path).holdRecords b

/-! ## The pending set and the reconsideration (R121) -/

/-- Board b put before every board the arbiter grants after it: highest score first, equal scores by slot (R121). -/
def State.insertByScore (s : State) (b : Bd) : List Bd → List Bd
  | [] => [b]
  | c :: rest => if (s.board c).score ≤ (s.board b).score then b :: c :: rest else c :: s.insertByScore b rest

/-- The boards of the pending set, ascending. -/
def State.pendingBoards (s : State) : List Bd := allBoards.filter fun b => (s.cause b).isSome

/-- The pending set in the order the arbiter would grant it (R121, R133). -/
def State.grantOrder (s : State) : List Bd := s.pendingBoards.foldr s.insertByScore []

/-- Step 3 of a reconsideration: each pending board whose recorded cause differs gets the new one, and WITHHELD (R121). -/
def State.recordCauses (s : State) (c : Cause) : State :=
  allBoards.foldl (fun t b =>
    if (t.cause b).isSome && decide (t.cause b ≠ some c) then (t.setCause b (some c)).latchWithheld b c else t) s

/-- The rounds of a reconsideration; each grant takes one board out of the pending set, so 33 rounds are enough. -/
def State.reconsiderRounds : Nat → State → State
  | 0, s => s
  | k + 1, s =>
    match s.grantOrder with
    | [] => s
    | b :: _ =>
      match s.withholdCause with
      | none => State.reconsiderRounds k (s.grantVerdict b .automatic)
      | some c => s.recordCauses c

/-- The pending set reconsidered (R121). -/
def State.reconsider (s : State) : State := State.reconsiderRounds 33 s

/-- What an event that made t from s still does: an exit from the common-cause state starts a reconsideration (R121). -/
def State.afterExit (s t : State) : State := if s.commonCause && !t.commonCause then t.reconsider else t

/-! ## Verdict requests, charges and credits -/

/-- A verdict request for board b: granted, or withheld for the first failing condition (R119). -/
def State.verdictRequest (s : State) (b : Bd) : State :=
  match s.withholdCause with
  | none => s.grantVerdict b .automatic
  | some c => s.withhold b c

/-- Step 3 of a charge: a DOUBTFUL board at V or above that is not pending asks for its verdict (R97, R100). -/
def State.requestIfDue (s : State) (b : Bd) : State :=
  if (s.board b).state = .doubtful ∧ s.levelV ≤ (s.board b).score ∧ (s.board b).pending = false then s.verdictRequest b else s

/-- Board b becomes DOUBTFUL, DOUBT is latched and the change reported (R97 step 2, R100). An exit from the common-cause state
that the report finds is reconsidered before the board's own verdict request (R121; the order is a DESIGN CHOICE, log 33). -/
def State.becomeDoubtful (s : State) (b : Bd) (item : DoubtItem) : State :=
  s.afterExit ((s.setBoardState b .doubtful).latchDoubt b item)

/-- Step 1 of a charge: the score and the charges count (R97). -/
def Board.charged (x : Board) (w : Nat) : Board :=
  { x with score := min 4095 (x.score + w), charges := min 65535 (x.charges + 1) }

/-- Step 4 of a charge: LOST and RACING latch HEARTBEAT (R97). -/
def State.latchIfHeartbeat (s : State) (b : Bd) : Evidence → State
  | .lost => s.latchHeartbeat b true false
  | .racing => s.latchHeartbeat b false true
  | .authOver | .settleOver | .stall | .xcheck => s

/-- Step 1 of a charge: the score and the charges count rise (R97). -/
def State.raiseScore (s : State) (b : Bd) (kind : Evidence) : State :=
  s.modifyBoard b fun x => x.charged (Weights.of s.effWeights kind)

/-- Step 2 of a charge, and the first case of a re-evaluation: a LIVE board at A or above becomes DOUBTFUL (R97, R100). -/
def State.doubtIfAlerted (s : State) (b : Bd) (item : DoubtItem) : State :=
  if (s.board b).state = .live ∧ s.levelA ≤ (s.board b).score then s.becomeDoubtful b item else s

/-- The steps of R97 for a LIVE or DOUBTFUL board. -/
def State.applyCharge (s : State) (b : Bd) (kind : Evidence) : State :=
  (((s.raiseScore b kind).doubtIfAlerted b (.item kind)).requestIfDue b).latchIfHeartbeat b kind

/-- An item of evidence reaches the Board Table: charged in LIVE and DOUBTFUL, dropped or ignored otherwise (R94). -/
def State.charge (s : State) (b : Bd) (kind : Evidence) : State :=
  match (s.board b).state with
  | .live | .doubtful => s.applyCharge b kind
  | .absent | .warming | .silent | .drained => s

/-- Step 1 of a credit: max(1, floor(S / 2^D)) off the score (R98). -/
def State.payDown (s : State) (b : Bd) : State :=
  s.modifyBoard b fun x => { x with score := x.score - max 1 (x.score / 2 ^ s.shiftD) }

/-- A pending board below V leaves the pending set (R98 step 2, R100, R120). -/
def State.leavePendingIfBelow (s : State) (b : Bd) : State :=
  if (s.board b).pending = true ∧ (s.board b).score < s.levelV then s.clearPending b else s

/-- A DOUBTFUL board stands below A - H (R98 step 3, R100). -/
def State.returnsToLive (s : State) (b : Bd) : Bool :=
  decide ((s.board b).state = .doubtful ∧ (s.board b).score + s.levelH < s.levelA)

/-- Board b becomes LIVE, the change is reported, and an exit from the common-cause state is reconsidered (R98, R121). -/
def State.backToLive (s : State) (b : Bd) : State := s.afterExit (s.setBoardState b .live)

/-- The last two steps of a credit (R98). -/
def State.settleCredit (s : State) (b : Bd) : State := if s.returnsToLive b then s.backToLive b else s

/-- A credit given to board b (R98). -/
def State.credit (s : State) (b : Bd) : State := ((s.payDown b).leavePendingIfBelow b).settleCredit b

/-! ## Entry to WARMING (R79) -/

/-- The board record on entry to WARMING, with its seed and grace end (R79). -/
def Board.warmed (x : Board) (seed : Nat) (graceEnd : Time) : Board :=
  { x with
    state := .warming, score := 0, charges := 0, latency := seed, releases := 0, baseline := none
    graceEnd := some graceEnd, stallExpiry := none, lastProgress := none, lostExpiry := none
    heard := false, pending := false, verdictTime := none }

/-- Board b enters WARMING: its record, its line, and the report (R79). -/
def State.enterWarming (s : State) (b : Bd) : State :=
  (((s.modifyBoard b fun x => x.warmed s.seed (s.after s.graceLength)).modifyLine b fun _ => Line.reset)).reportState
    (s.board b).state .warming

/-- An accepted SETGROUP has marked its group valid: when every group is then valid, the pending set is reconsidered
(R121, R154). -/
def State.afterSetgroup (s : State) : State := if s.allValid then s.reconsider else s

end Sys2Proof.Machine
end

