-- ==== Sys2Proof/Machine/Link.lean ====
section
/-! DEFINITION. The frames of the custody link: the serial form of a byte (R171), the receiver and the input buffer (R161),
what a frame's bytes stand for and the link checks (R162, R163, R169), the frame of a request, and how a request is taken. -/

namespace Sys2Proof.Machine

/-! ## The serial form of a byte on LRX and LTX (R171) -/

/-- What the line carries for one bit time: a start bit, a data bit or a stop bit. R171 states no level for a start or a stop
bit, and the model gives them none; how long a bit lasts is timing (log 31). -/
inductive LineBit where
  | start
  | data (b : Bool)
  | stop
  deriving DecidableEq, Repr

/-- A byte on the line: one start bit, eight data bits least significant first, and one stop bit (R171). -/
def byteOnLine (b : Byte) : List LineBit := .start :: (List.range 8).map (fun k => .data (b.getLsbD k)) ++ [.stop]

/-- A run of bytes on the line. -/
def bytesOnLine (bytes : List Byte) : List LineBit := bytes.flatMap byteOnLine

/-- The bytes that line bits carry; none for a run of bits that is not whole bytes. FRAME_ARRIVAL takes such bytes from LRX. -/
def bytesFromLine : List LineBit → Option (List Byte)
  | [] => some []
  | .start :: .data b0 :: .data b1 :: .data b2 :: .data b3 :: .data b4 :: .data b5 :: .data b6 :: .data b7 :: .stop :: rest =>
    (bytesFromLine rest).map fun bytes => bitsByte [b0, b1, b2, b3, b4, b5, b6, b7] :: bytes
  | _ => none

/-- What LTX has carried: the bytes of the responses, in the order formed (R160, R162, R171; log 11). -/
def State.transmitted (s : State) : List LineBit := bytesOnLine (s.tx.flatMap Response.bytes)

/-! ## Receiving (R161) -/

/-- A length byte above 48 ends the frame as over-long (R161). -/
def Frame.overLong (f : Frame) : Bool := decide (48 < f.len.toNat)

/-- The bytes the CRC of a request covers: code, tag, length and payload (R160). -/
def Frame.covered (f : Frame) : List Byte := [f.code, f.tag, f.len] ++ f.payload

/-- A frame as the router sends it, from the start byte to the CRC (R160). -/
def Frame.bytes (f : Frame) : List Byte := 0xA5 :: f.covered ++ be 2 f.crc.toNat

/-- The frame that arrives when the bytes of BODY are complete: the payload, then the two CRC bytes (R160, R161). -/
def bodyFrame (code tag len : Byte) (got : List Byte) : Frame :=
  { code := code, tag := tag, len := len, payload := got.take len.toNat
    crc := BitVec.ofNat 16 (ofBe (got.drop len.toNat)) }

/-- An arriving frame joins the buffer, or is discarded with LINK latched when the buffer already holds 16 (R161). -/
def State.frameArrives (s : State) (f : Frame) : State :=
  if s.buffer.length < Config.bufferFrames then { s with buffer := s.buffer ++ [f] } else s.latchLink

/-- The receiver takes one byte (R161). -/
def State.receiveByte (s : State) (b : Byte) : State :=
  match s.rx with
  | .hunting => if b = 0xA5 then { s with rx := .awaitCode } else s
  | .awaitCode => { s with rx := .awaitTag b }
  | .awaitTag code => { s with rx := .awaitLength code b }
  | .awaitLength code tag =>
    if 48 < b.toNat then { s with rx := .hunting }.frameArrives ⟨code, tag, b, [], 0⟩
    else { s with rx := .body code tag b [] }
  | .body code tag len got =>
    let all := got ++ [b]
    if all.length = len.toNat + 2 then { s with rx := .hunting }.frameArrives (bodyFrame code tag len all)
    else { s with rx := .body code tag len all }

/-- The receiver takes a run of bytes (R161). -/
def State.receive (s : State) (bytes : List Byte) : State := bytes.foldl State.receiveByte s

/-! ## What a frame stands for (R162, R163, R169) -/

/-- A taken frame: answered by the link interface itself, or a request for its owning block. -/
inductive Taken where
  | refused (o : OutcomeCode) (payload : List Byte)
  | request (i : Instr)
  deriving DecidableEq, Repr

/-- A number from a run of bytes of a payload, first byte and count given. -/
def field (p : List Byte) (start count : Nat) : Nat := ofBe ((p.drop start).take count)

/-- A key field of a payload (R160). -/
def keyField (p : List Byte) (start : Nat) : Key :=
  ⟨BitVec.ofNat 24 (field p start 3), BitVec.ofNat 24 (field p (start + 3) 3)⟩

/-- A one-byte field of a payload. -/
def byteField (p : List Byte) (start : Nat) : Byte := BitVec.ofNat 8 (field p start 1)

/-- A two-byte field of a payload. -/
def wordField (p : List Byte) (start : Nat) : BitVec 16 := BitVec.ofNat 16 (field p start 2)

/-- A SETGROUP whose length fits its group (R169). -/
def setgroupRequest (tag : Byte) (p : List Byte) : Instr :=
  match field p 0 1 with
  | 0 => .setgroupTimebase tag ⟨byteField p 1, byteField p 2, byteField p 3⟩
  | 1 => .setgroupProfile tag 0 ⟨wordField p 1, wordField p 3, byteField p 5, BitVec.ofNat 24 (field p 6 3)⟩
  | 2 => .setgroupProfile tag 1 ⟨wordField p 1, wordField p 3, byteField p 5, BitVec.ofNat 24 (field p 6 3)⟩
  | 3 => .setgroupProfile tag 2 ⟨wordField p 1, wordField p 3, byteField p 5, BitVec.ofNat 24 (field p 6 3)⟩
  | 4 => .setgroupProfile tag 3 ⟨wordField p 1, wordField p 3, byteField p 5, BitVec.ofNat 24 (field p 6 3)⟩
  | 5 => .setgroupLatency tag ⟨wordField p 1, byteField p 3⟩
  | 6 => .setgroupWeights tag ⟨wordField p 1, wordField p 3, wordField p 5, wordField p 7, wordField p 9, wordField p 11⟩
  | 7 => .setgroupThresholds tag ⟨wordField p 1, wordField p 3, wordField p 5, byteField p 7⟩
  | 8 => .setgroupHeartbeat tag
      ⟨wordField p 1, wordField p 3, BitVec.ofNat 24 (field p 5 3), byteField p 8, byteField p 9⟩
  | 9 => .setgroupGuard tag ⟨byteField p 1, byteField p 2, wordField p 3⟩
  | 10 => .setgroupTable tag ⟨wordField p 1, wordField p 3⟩
  | _ => .setgroupMasks tag ⟨wordField p 1, byteField p 3⟩

/-- The length of a group's fields (R169); none for a number outside 0..11. -/
def groupLength : Nat → Option Nat
  | 0 => some 3 | 1 => some 8 | 2 => some 8 | 3 => some 8 | 4 => some 8 | 5 => some 3 | 6 => some 12 | 7 => some 7
  | 8 => some 9 | 9 => some 4 | 10 => some 4 | 11 => some 3 | _ => none

/-- The tests of a SETGROUP payload: a length of 0, the group number, the group's length (R162, R169). -/
def takeSetgroup (tag : Byte) (p : List Byte) : Taken :=
  if p.length = 0 then .refused .badLength []
  else match groupLength (field p 0 1) with
    | none => .refused .outOfRange [255]
    | some n => if p.length = n + 1 then .request (setgroupRequest tag p) else .refused .badLength []

/-- A request whose payload must have one length (R162 check 3). -/
def ofLength (p : List Byte) (n : Nat) (i : Instr) : Taken :=
  if p.length = n then .request i else .refused .badLength []

/-- The 22 codes of R163 with their payloads; any other code is BAD_CODE (R162 checks 2 and 3). -/
def takePayload (code : Nat) (tag : Byte) (p : List Byte) : Taken :=
  match code with
  | 0x01 =>
    if p.length = 12 then
      .request (.lodge tag (byteField p 0) (keyField p 1) (byteField p 7) (some (BitVec.ofNat 32 (field p 8 4))))
    else ofLength p 8 (.lodge tag (byteField p 0) (keyField p 1) (byteField p 7) none)
  | 0x02 => ofLength p 10 (.advance tag (keyField p 0) (BitVec.ofNat 32 (field p 6 4)))
  | 0x03 => ofLength p 7 (.release tag (keyField p 0) (byteField p 6))
  | 0x04 => ofLength p 6 (.lookup tag (keyField p 0))
  | 0x05 => ofLength p 2 (.peek tag (wordField p 0))
  | 0x06 => ofLength p 1 (.enrol tag (byteField p 0))
  | 0x07 => ofLength p 1 (.reinstate tag (byteField p 0))
  | 0x08 => ofLength p 1 (.retire tag (byteField p 0))
  | 0x09 => ofLength p 1 (.declare tag (byteField p 0))
  | 0x0A => ofLength p 1 (.absolve tag (byteField p 0))
  | 0x0B => ofLength p 2 (.take tag (byteField p 0) (byteField p 1))
  | 0x0C => ofLength p 1 (.purge tag (byteField p 0))
  | 0x0D => ofLength p 3 (.report tag (byteField p 0) (wordField p 1))
  | 0x0E => ofLength p 1 (.board tag (byteField p 0))
  | 0x0F => ofLength p 1 (.device tag (byteField p 0))
  | 0x10 => takeSetgroup tag p
  | 0x11 => ofLength p 1 (.getgroup tag (byteField p 0))
  | 0x12 => ofLength p 18 (.setwatch tag (byteField p 0)
      ⟨byteField p 1, byteField p 2, keyField p 3, keyField p 9, byteField p 15, byteField p 16, byteField p 17⟩)
  | 0x13 => ofLength p 0 (.notice tag)
  | 0x14 => ofLength p 1 (.test tag (byteField p 0))
  | 0x15 => ofLength p 0 (.clear tag)
  | 0x16 => ofLength p 0 (.ident tag)
  | _ => .refused .badCode []

/-- The three link checks and, for a frame that passes, the request it stands for (R162). -/
def parseFrame (f : Frame) : Taken :=
  if f.overLong || decide (crc f.covered ≠ f.crc) then .refused .frameCheck []
  else takePayload f.code.toNat f.tag f.payload

/-! ## The frame of a request (R160, R163) -/

/-- The 17 setting bytes of SETWATCH as sent (R163). -/
def WatchSettings.bytes (w : WatchSettings) : List Byte :=
  [w.enable, w.kind] ++ keyBytes w.value ++ keyBytes w.mask ++ [w.low, w.high, w.events]

/-- A request's code, tag and payload; none for an event of the part (R163). -/
def requestParts : Instr → Option (Byte × Byte × List Byte)
  | .lodge t b k c r => some (0x01, t, b :: keyBytes k ++ [c] ++ (match r with | none => [] | some x => be 4 x.toNat))
  | .advance t k a => some (0x02, t, keyBytes k ++ be 4 a.toNat)
  | .release t k o => some (0x03, t, keyBytes k ++ [o])
  | .lookup t k => some (0x04, t, keyBytes k)
  | .peek t n => some (0x05, t, be 2 n.toNat)
  | .enrol t b => some (0x06, t, [b])
  | .reinstate t b => some (0x07, t, [b])
  | .retire t b => some (0x08, t, [b])
  | .declare t b => some (0x09, t, [b])
  | .absolve t b => some (0x0A, t, [b])
  | .take t b n => some (0x0B, t, [b, n])
  | .purge t b => some (0x0C, t, [b])
  | .report t b c => some (0x0D, t, b :: be 2 c.toNat)
  | .board t b => some (0x0E, t, [b])
  | .device t p => some (0x0F, t, [p])
  | .setgroupTimebase t f => some (0x10, t, 0 :: Timebase.bytes f)
  | .setgroupProfile t c f => some (0x10, t, BitVec.ofNat 8 (1 + c.val) :: Profile.bytes f)
  | .setgroupLatency t f => some (0x10, t, 5 :: Latency.bytes f)
  | .setgroupWeights t f => some (0x10, t, 6 :: Weights.bytes f)
  | .setgroupThresholds t f => some (0x10, t, 7 :: Thresholds.bytes f)
  | .setgroupHeartbeat t f => some (0x10, t, 8 :: Heartbeat.bytes f)
  | .setgroupGuard t f => some (0x10, t, 9 :: Guard.bytes f)
  | .setgroupTable t f => some (0x10, t, 10 :: TableSettings.bytes f)
  | .setgroupMasks t f => some (0x10, t, 11 :: Masks.bytes f)
  | .getgroup t g => some (0x11, t, [g])
  | .setwatch t u w => some (0x12, t, u :: WatchSettings.bytes w)
  | .notice t => some (0x13, t, [])
  | .test t i => some (0x14, t, [i])
  | .clear t => some (0x15, t, [])
  | .ident t => some (0x16, t, [])
  | .frameArrival _ | .linkCheck | .pinReset | .tuStep | .passStart | .sweepVisit | .graceExpiry _ | .pulse _
  | .lostExpiry _ | .stallExpiry _ | .resetNReleased => none

/-- The frame of code, tag and payload with its CRC (R160). -/
def frameOf (code tag : Byte) (payload : List Byte) : Frame :=
  let len : Byte := BitVec.ofNat 8 payload.length
  { code := code, tag := tag, len := len, payload := payload, crc := crc ([code, tag, len] ++ payload) }

/-- The frame a router sends for a request (R160, R163). -/
def requestFrame (i : Instr) : Option Frame := (requestParts i).map fun x => frameOf x.1 x.2.1 x.2.2

/-! ## Taking (R162) -/

/-- The request's own frame, if it stands at the head of the buffer, is taken from it, and READY follows. A request whose
frame does not stand there is served all the same, and the buffer is left (DESIGN CHOICE, log 1). -/
def State.takeOff (s : State) (i : Instr) : State :=
  match s.buffer with
  | [] => s
  | f :: rest => if parseFrame f = .request i then { s with buffer := rest }.driveReady else s

/-- A step of the part outside pin reset: while RESET_N is held low nothing but the reset pin acts (log 8). -/
def whenReleased (s : State) (t : State) : Host.Outcome State Fault Refusal :=
  if s.resetHeld then .next s else .next t

/-- A request taken: its frame leaves the buffer, the owning block serves it, and the output lines follow. -/
def takeRequest (i : Instr) (serve : State → State) (s : State) : Host.Outcome State Fault Refusal :=
  whenReleased s (serve (s.takeOff i)).driveLines

/-- An event of the part: its effect, and the output lines follow. -/
def takeEvent (effect : State → State) (s : State) : Host.Outcome State Fault Refusal :=
  whenReleased s (effect s).driveLines

end Sys2Proof.Machine
end

