-- ==== Sys2Proof/Machine/Boards.lean ====
section
/-! DEFINITION. The board requests ENROL, REINSTATE, RETIRE, DECLARE, ABSOLVE, REPORT and BOARD (chapters 5 to 7). -/

namespace Sys2Proof.Machine

/-! ## ENROL and REINSTATE (R78, R84) -/

/-- The answer of an accepted ENROL or REINSTATE: state and grace end (R165). -/
def State.answerWarming (s : State) (code tag : Byte) (b : Bd) : State :=
  s.answer code tag .accepted ((s.board b).state.byte :: optTime (s.board b).graceEnd)

/-- ENROL served (R78). -/
def serveEnrol (tag board : Byte) (s : State) : State :=
  match toBd board with
  | none => s.outOfRange 0x06 tag 0
  | some b =>
    if (s.board b).state ≠ .absent then s.refuseBoardState 0x06 tag b
    else (s.afterExit (s.enterWarming b)).answerWarming 0x06 tag b

/-- REINSTATE served; the fall of the down count starts a reconsideration (R84, R121). -/
def serveReinstate (tag board : Byte) (s : State) : State :=
  match toBd board with
  | none => s.outOfRange 0x07 tag 0
  | some b =>
    if (s.board b).state ≠ .drained then s.refuseBoardState 0x07 tag b
    else (s.enterWarming b).reconsider.answerWarming 0x07 tag b

/-! ## RETIRE (R85, R86) -/

/-- The board record after RETIRE (R86). -/
def Board.retired (x : Board) : Board :=
  { x with
    state := .absent, graceEnd := none, stallExpiry := none, lostExpiry := none, heard := false, verdictTime := none }

/-- Board b leaves service; its line's interval armed becomes no and its last pulse is kept (R86, R102). -/
def State.leaveService (s : State) (b : Bd) : State :=
  ((s.modifyBoard b Board.retired).modifyLine b fun l => { l with intervalArmed := false }).reportState
    (s.board b).state .absent

/-- RETIRE served; a RETIRE from DRAINED starts a reconsideration (R85, R86, R121). -/
def serveRetire (tag board : Byte) (s : State) : State :=
  match toBd board with
  | none => s.outOfRange 0x08 tag 0
  | some b =>
    if (s.board b).state = .absent ∨ (s.board b).state = .doubtful ∨ (s.board b).state = .silent then
      s.refuseBoardState 0x08 tag b
    else if 0 < (s.board b).outstanding then s.refuseBoardState 0x08 tag b
    else
      let t := s.leaveService b
      let u := if (s.board b).state = .drained then t.reconsider else s.afterExit t
      u.answer 0x08 tag .accepted ((u.board b).state.byte :: be 2 (u.board b).score)

/-! ## DECLARE (R125) -/

/-- DECLARE served; an exit from the common-cause state is reconsidered once the grant is complete (R121, R125, log 18). A
structure failure found in the grant's walk leaves the grant standing (R152) and the answer ACCEPTED (DESIGN CHOICE,
log 36). -/
def serveDeclare (tag board : Byte) (s : State) : State :=
  match toBd board with
  | none => s.outOfRange 0x09 tag 0
  | some b =>
    if !(s.board b).state.isActive then s.refuseBoardState 0x09 tag b
    else if s.maxDown ≤ s.down then s.answer 0x09 tag .downLimit (be 1 s.down ++ be 1 s.maxDown)
    else
      let t := s.afterExit (s.grantVerdict b .declared)
      t.answer 0x09 tag .accepted
        ((t.board b).state.byte :: optTime (t.board b).verdictTime ++ be 2 (t.board b).outstanding)

/-! ## ABSOLVE (R88) -/

/-- Score 0, out of the pending set, LIVE, the change reported (R88). -/
def State.absolveBoard (s : State) (b : Bd) : State :=
  ((s.modifyBoard b fun x => { x with score := 0 }).clearPending b).setBoardState b .live

/-- ABSOLVE served (R88). -/
def serveAbsolve (tag board : Byte) (s : State) : State :=
  match toBd board with
  | none => s.outOfRange 0x0A tag 0
  | some b =>
    if (s.board b).state ≠ .live ∧ (s.board b).state ≠ .doubtful then s.refuseBoardState 0x0A tag b
    else
      let t := s.afterExit (s.absolveBoard b)
      t.answer 0x0A tag .accepted ((t.board b).state.byte :: be 2 (t.board b).score)

/-! ## REPORT (R111 to R113) -/

/-- The discrepancy: (count - release count - baseline) mod 2^16 read as signed in 16 bits (R113). -/
def discrepancy (count releases baseline : BitVec 16) : Int := (count - releases - baseline).toInt

/-- The allowance XCHK_TOL + outstanding (R113). -/
def State.allowance (s : State) (b : Bd) : Nat := s.xchkTol + (s.board b).outstanding

/-- XCHECK is charged when the discrepancy's magnitude is above the allowance and the board is LIVE or DOUBTFUL (R113). -/
def State.xcheckDue (s : State) (b : Bd) (disc : Int) : Bool :=
  decide (s.allowance b < disc.natAbs) && decide ((s.board b).state = .live ∨ (s.board b).state = .doubtful)

/-- The first REPORT takes the baseline (R112). -/
def State.takeBaseline (s : State) (tag : Byte) (b : Bd) (count : BitVec 16) : State :=
  let base := count - (s.board b).releases
  (s.modifyBoard b fun x => { x with baseline := some base }).answer 0x0D tag .accepted
    (bitsByte [true, false, false] :: be 2 base.toNat ++ be 2 (s.board b).releases.toNat
      ++ be 2 (s.board b).outstanding ++ be 2 0 ++ be 2 0)

/-- A later REPORT is cross-checked (R113). -/
def State.crossCheck (s : State) (tag : Byte) (b : Bd) (count base : BitVec 16) : State :=
  let disc := discrepancy count (s.board b).releases base
  let due := s.xcheckDue b disc
  (if due then s.charge b .xcheck else s).answer 0x0D tag .accepted
    (bitsByte [false, due, true] :: be 2 base.toNat ++ be 2 (s.board b).releases.toNat
      ++ be 2 (s.board b).outstanding ++ be 2 (count - (s.board b).releases - base).toNat ++ be 2 (s.allowance b))

/-- REPORT served (R111). A structure failure found in the walk of a grant that its charge makes leaves the answer ACCEPTED
(DESIGN CHOICE, log 36). -/
def serveReport (tag board : Byte) (count : BitVec 16) (s : State) : State :=
  match toBd board with
  | none => s.outOfRange 0x0D tag 0
  | some b =>
    if !(s.board b).state.isActive then s.refuseBoardState 0x0D tag b
    else match (s.board b).baseline with
      | none => s.takeBaseline tag b count
      | some base => s.crossCheck tag b count base

/-! ## BOARD (R93, R167) -/

/-- The 43 bytes of board status (R167). -/
def State.boardStatus (s : State) (b : Bd) : List Byte :=
  let x := s.board b
  let l := s.line b
  [BitVec.ofNat 8 b.val, x.state.byte] ++ be 2 x.score ++ be 3 x.latency ++ be 2 x.outstanding ++ be 2 x.damaged
    ++ be 2 x.releases.toNat ++ be 2 x.charges
    ++ [bitsByte [x.baseline.isSome, x.graceEnd.isSome, x.stallExpiry.isSome, x.lastProgress.isSome, l.lastPulse.isSome,
          x.lostExpiry.isSome, x.verdictTime.isSome],
        bitsByte [x.heard, x.pending]]
    ++ be 2 (x.baseline.getD 0).toNat ++ optTime x.graceEnd ++ optTime x.stallExpiry ++ optTime x.lastProgress
    ++ optTime l.lastPulse ++ optTime x.lostExpiry ++ optTime x.verdictTime

/-- BOARD served (R93). -/
def serveBoard (tag slot : Byte) (s : State) : State :=
  match toBd slot with
  | none => s.outOfRange 0x0E tag 0
  | some b => s.answer 0x0E tag .status (s.boardStatus b)

/-! ## The meanings -/

def execEnrol (tag board : Byte) (s : State) : Host.Outcome State Fault Refusal :=
  takeRequest (.enrol tag board) (serveEnrol tag board) s

def execReinstate (tag board : Byte) (s : State) : Host.Outcome State Fault Refusal :=
  takeRequest (.reinstate tag board) (serveReinstate tag board) s

def execRetire (tag board : Byte) (s : State) : Host.Outcome State Fault Refusal :=
  takeRequest (.retire tag board) (serveRetire tag board) s

def execDeclare (tag board : Byte) (s : State) : Host.Outcome State Fault Refusal :=
  takeRequest (.declare tag board) (serveDeclare tag board) s

def execAbsolve (tag board : Byte) (s : State) : Host.Outcome State Fault Refusal :=
  takeRequest (.absolve tag board) (serveAbsolve tag board) s

def execReport (tag board : Byte) (count : BitVec 16) (s : State) : Host.Outcome State Fault Refusal :=
  takeRequest (.report tag board count) (serveReport tag board count) s

def execBoard (tag slot : Byte) (s : State) : Host.Outcome State Fault Refusal :=
  takeRequest (.board tag slot) (serveBoard tag slot) s

end Sys2Proof.Machine
end

