-- ==== Sys2Proof/Machine/Transactions.lean ====
section
/-! DEFINITION. The transaction requests LODGE, ADVANCE, RELEASE, LOOKUP and PEEK (chapter 2), with the deadlines and the
latency estimate they use (chapter 4). -/

namespace Sys2Proof.Machine

/-! ## The record report (R43, R166) -/

/-- The 30-byte record entry of slot n (R166). -/
def recordEntry (n : Nat) (x : Option Slot) (held : Bool) : List Byte :=
  match x with
  | none => be 2 n ++ List.replicate 28 0
  | some (.damaged _ _ _) | some .unattributed => be 2 n ++ [bitsByte [true, true, held]] ++ List.replicate 27 0
  | some (.record st _ p _) =>
    be 2 n
      ++ [bitsByte [decide (st = .lodged), decide (st = .decided), held, p.lateAuth, p.lateSettle, p.decision.isSome,
            p.routerTag.isSome, p.overdue.isSome],
          BitVec.ofNat 8 (p.watchSet.toNat + 16 * ((p.overdue.map (·.excused)).getD false).toNat + 32 * p.cls.val)]
      ++ keyBytes p.key ++ be 4 p.lodgeTime.toNat ++ be 4 p.deadline.toNat ++ be 4 (p.decision.getD 0).toNat
      ++ be 4 (p.routerTag.getD 0).toNat ++ optTime (p.overdue.map (·.time))

/-- A record is held if and only if its board is SILENT (R16). -/
def State.heldBy (s : State) (b : Option Bd) : Bool :=
  match b with
  | none => false
  | some b => decide ((s.board b).state = .silent)

/-- The board link of a slot's content. -/
def linkOf : Option Slot → Option Bd
  | none => none
  | some (.record _ b _ _) => some b
  | some (.damaged b _ _) => some b
  | some .unattributed => none

/-- The payload of FOUND and SLOT: the board byte and the record entry (R166). -/
def State.recordReport (s : State) (n : Nat) : List Byte :=
  optBoardByte (linkOf (s.slot n)) :: recordEntry n (s.slot n) (s.heldBy (linkOf (s.slot n)))

/-! ## LODGE (R24 to R26, R70) -/

/-- The decision interval D_auth: clamp(floor(L × K / 64), AUTH_FLOOR, AUTH_CEIL) (R70). -/
def decisionInterval (latency : Nat) (p : Profile) : Nat :=
  clamp (latency * p.k.toNat / 64) p.authFloor.toNat p.authCeil.toNat

/-- The payload of a new record (R12). -/
def State.newPayload (s : State) (b : Bd) (k : Key) (c : Fin 4) (routerTag : Option (BitVec 32)) : Payload :=
  { key := k, cls := c, lodgeTime := s.clock
    deadline := s.after (decisionInterval (s.board b).latency (s.profile c).fields)
    decision := none, routerTag := routerTag, lateAuth := false, lateSettle := false, overdue := none
    watchSet := s.matchSet k b }

/-- An accepted LODGE into slot n: the record, its LODGE event, and the answer (R25). -/
def State.lodgeInto (s : State) (tag : Byte) (b : Bd) (p : Payload) (n : Nat) (rest : List Nat) : State :=
  ((s.createRecord n rest b p).offer .lodge n b p.key p.watchSet).answer 0x01 tag
    (if (s.board b).state = .doubtful then .acceptedDoubt else .accepted) (be 2 n ++ be 4 p.deadline.toNat)

/-- Checks 3 to 7 of R24, and the accepted LODGE. -/
def State.lodgeChecked (s : State) (tag : Byte) (b : Bd) (k : Key) (c : Fin 4) (routerTag : Option (BitVec 32)) : State :=
  if !(s.board b).state.isActive then s.refuseBoardState 0x01 tag b
  else if !(s.profile c).valid then s.answer 0x01 tag .profileInvalid []
  else if (s.lookupKey k).isSome then s.answer 0x01 tag .duplicate []
  else if s.quota ≤ (s.board b).outstanding then s.answer 0x01 tag .overQuota []
  else match s.free with
    | [] => s.answer 0x01 tag .full []
    | n :: rest => s.lodgeInto tag b (s.newPayload b k c routerTag) n rest

/-- LODGE served: HALTED, the field ranges, then R24's further checks. -/
def serveLodge (tag board : Byte) (k : Key) (cls : Byte) (routerTag : Option (BitVec 32)) (s : State) : State :=
  if s.halted then s.answer 0x01 tag .halted []
  else match toBd board with
    | none => s.outOfRange 0x01 tag 0
    | some b =>
      if h : cls.toNat < 4 then s.lodgeChecked tag b k ⟨cls.toNat, h⟩ routerTag else s.outOfRange 0x01 tag 2

/-! ## Judging lateness (R28, R29) -/

/-- The four judgements (R28). -/
inductive Judgement where
  | onTime | charged | excused | marked
  deriving DecidableEq, Repr

/-- The judgement's code (R164). -/
def Judgement.byte : Judgement → Byte
  | .onTime => 0 | .charged => 1 | .excused => 2 | .marked => 3

/-- CHARGED and EXCUSED set the late mark and give the OVERDUE event (R29). -/
def Judgement.setsMark : Judgement → Bool
  | .charged | .excused => true
  | .onTime | .marked => false

/-- The judgement of a record's current stage (R28). A record's board is WARMING, LIVE or DOUBTFUL here; a board in no
such state charges nothing (log 26). -/
def judge (now : Time) (st : BoardState) (p : Payload) : Judgement :=
  if p.overdue.isSome then .marked
  else if past now p.deadline then
    match st with
    | .live | .doubtful => .charged
    | .absent | .warming | .silent | .drained => .excused
  else .onTime

/-- The late mark of the current stage set when the judgement says so (R29). -/
def Payload.judged (p : Payload) (st : Stage) (j : Judgement) : Payload :=
  match st with
  | .lodged => { p with lateAuth := p.lateAuth || j.setsMark }
  | .decided => { p with lateSettle := p.lateSettle || j.setsMark }

/-- The OVERDUE event of a judgement (R29). -/
def State.offerOverdue (s : State) (j : Judgement) (n : Nat) (b : Bd) (p : Payload) : State :=
  if j.setsMark then s.offer .overdue n b p.key p.watchSet else s

/-! ## The report to the Board Table (R31, R65 to R67) -/

/-- The sample of a decided record: the cap when it carries late-auth, else its age capped at 65535 (R66). -/
def sampleOf (now : Time) (p : Payload) : Nat :=
  if p.lateAuth then 65535 else min (now - p.lodgeTime).toNat 65535

/-- The estimate after a sample s with gain shift g: L + floor((16 s - L) / 2^g) (R67). -/
def updatedLatency (latency sample g : Nat) : Nat :=
  ((latency : Int) + (16 * (sample : Int) - latency) / 2 ^ g).toNat

/-- The latency sample taken for board b (R67). -/
def State.takeSample (s : State) (b : Bd) (sample : Nat) : State :=
  s.modifyBoard b fun x => { x with latency := updatedLatency x.latency sample s.gain }

/-- The release count stepped (R31). -/
def State.stepReleases (s : State) (b : Bd) : State := s.modifyBoard b fun x => { x with releases := x.releases + 1 }

/-- Progress: last progress is written, and in LIVE or DOUBTFUL with work outstanding the stall timer is re-armed (R31,
R75, R108). -/
def State.progress (s : State) (b : Bd) : State :=
  s.modifyBoard b fun x =>
    { x with
      lastProgress := some s.clock
      stallExpiry :=
        if (x.state = .live ∨ x.state = .doubtful) ∧ 0 < x.outstanding then some (s.after s.stallLimit)
        else x.stallExpiry }

/-- The evidence of a CHARGED judgement (R29). -/
def State.chargeStage (s : State) (b : Bd) (st : Stage) (j : Judgement) : State :=
  match j with
  | .charged => s.charge b (match st with | .lodged => .authOver | .decided => .settleOver)
  | .onTime | .excused | .marked => s

/-! ## ADVANCE (R32 to R34) -/

/-- The payload ADVANCE writes (R13, R33, R72). -/
def State.advancedPayload (s : State) (p : Payload) (j : Judgement) (approval : BitVec 32) : Payload :=
  { p.judged .lodged j with
    decision := some approval, deadline := s.after (s.settle p.cls), overdue := none }

/-- An ADVANCE that passed its checks: judged, re-staged, offered to the Watch Units, reported, answered (R33, R34). A
structure failure found in the walk of a grant that its own charge makes leaves the record re-staged and the answer LATE
(DESIGN CHOICE, log 36). -/
def State.advanceRecord (s : State) (tag : Byte) (n : Nat) (b : Bd) (p : Payload) (approval : BitVec 32) : State :=
  let j := judge s.clock (s.board b).state p
  let q := s.advancedPayload p j approval
  let t := ((s.writeRecord n .decided b q).offerOverdue j n b q).offer .advance n b q.key q.watchSet
  let u := ((t.takeSample b (sampleOf s.clock q)).progress b).chargeStage b .lodged j
  u.answer 0x02 tag (if j = .onTime then .accepted else .late)
    (be 2 n ++ be 4 q.deadline.toNat ++ [j.byte, BitVec.ofNat 8 q.lateAuth.toNat])

/-- ADVANCE served (R32, R152). -/
def serveAdvance (tag : Byte) (k : Key) (approval : BitVec 32) (s : State) : State :=
  if s.halted then s.answer 0x02 tag .halted []
  else match s.lookupKey k with
    | none => s.answer 0x02 tag .notFound []
    | some n =>
      match s.slot n with
      | some (.record st b p parity) =>
        if (s.board b).state = .silent then s.answer 0x02 tag .held (be 2 n)
        else if st = .decided then s.answer 0x02 tag .wrongStage (be 2 n)
        else if !readsClean p parity then (s.damageRecord n b p parity).answer 0x02 tag .notFound []
        else if p.key ≠ k then (s.enterHalted .keyIndex).answer 0x02 tag .halted []
        else s.advanceRecord tag n b p approval
      | some (.damaged _ _ _) | some .unattributed => (s.enterHalted .keyIndex).answer 0x02 tag .halted []
      | none => (s.enterHalted .keyIndex).answer 0x02 tag .halted []

/-! ## RELEASE (R36 to R39) -/

/-- The RELEASE of a held record: the RELEASE event, the retirement, RELEASED_HELD (R37). -/
def State.releaseHeld (s : State) (tag : Byte) (n : Nat) (b : Bd) (p : Payload) : State :=
  ((s.offer .release n b p.key p.watchSet).retire n).answer 0x03 tag .releasedHeld (be 2 n)

/-- A release earns credit when its outcome is not CANCELLED, the record carries no late mark and the board is LIVE or
DOUBTFUL (R38). -/
def earnsCredit (st : BoardState) (cancelled : Bool) (p : Payload) : Bool :=
  !cancelled && !p.lateAuth && !p.lateSettle && decide (st = .live ∨ st = .doubtful)

/-- Items 1 to 3 of a RELEASE's report: sample, release count, progress (R31, R38). -/
def State.releaseReport (s : State) (b : Bd) (st : Stage) (p : Payload) (cancelled : Bool) : State :=
  if cancelled then s
  else
    let t := match st with
      | .lodged => s.takeSample b (sampleOf s.clock p)
      | .decided => s
    (t.stepReleases b).progress b

/-- The RELEASE of a record whose board is not SILENT (R38, R39). A structure failure found in the walk of a grant that its
own charge or credit leads to leaves the record retired and the answer as without it (DESIGN CHOICE, log 36). -/
def State.releaseRecord (s : State) (tag : Byte) (n : Nat) (b : Bd) (st : Stage) (p : Payload) (cancelled : Bool) : State :=
  let j := judge s.clock (s.board b).state p
  let q := p.judged st j
  let credit := earnsCredit (s.board b).state cancelled q
  let t := (((s.offerOverdue j n b q).offer .release n b q.key q.watchSet).retire n).releaseReport b st q cancelled
  let u := if credit then t.credit b else t.chargeStage b st j
  u.answer 0x03 tag (if j = .onTime then .accepted else .late)
    (be 2 n ++ [st.byte, j.byte, BitVec.ofNat 8 credit.toNat])

/-- RELEASE served (R36, R152). Outcome 3 is CANCELLED (R163). -/
def serveRelease (tag : Byte) (k : Key) (outcome : Byte) (s : State) : State :=
  if s.halted then s.answer 0x03 tag .halted []
  else if 3 < outcome.toNat then s.outOfRange 0x03 tag 1
  else match s.lookupKey k with
    | none => s.answer 0x03 tag .notFound []
    | some n =>
      match s.slot n with
      | some (.record st b p parity) =>
        if !readsClean p parity then (s.damageRecord n b p parity).answer 0x03 tag .notFound []
        else if p.key ≠ k then (s.enterHalted .keyIndex).answer 0x03 tag .halted []
        else if !s.removalSound b n then (s.enterHalted (.custodyList b)).answer 0x03 tag .halted []
        else if (s.board b).state = .silent then s.releaseHeld tag n b p
        else s.releaseRecord tag n b st p (decide (outcome = 3))
      | some (.damaged _ _ _) | some .unattributed => (s.enterHalted .keyIndex).answer 0x03 tag .halted []
      | none => (s.enterHalted .keyIndex).answer 0x03 tag .halted []

/-! ## LOOKUP and PEEK (R41, R42) -/

/-- A LOOKUP's structure failure: HALTED when the device was not HALTED, NOT_FOUND when it already was (R41, R152). -/
def State.lookupFailure (s : State) (tag : Byte) : State :=
  (s.enterHalted .keyIndex).answer 0x04 tag (if s.halted then .notFound else .halted) []

/-- LOOKUP served (R41). -/
def serveLookup (tag : Byte) (k : Key) (s : State) : State :=
  match s.lookupKey k with
  | none => s.answer 0x04 tag .notFound []
  | some n =>
    match s.slot n with
    | some (.record _ b p parity) =>
      if !readsClean p parity then (s.damageRecord n b p parity).answer 0x04 tag .notFound []
      else if p.key ≠ k then s.lookupFailure tag
      else s.answer 0x04 tag .found (s.recordReport n)
    | some (.damaged _ _ _) | some .unattributed => s.lookupFailure tag
    | none => s.lookupFailure tag

/-- The damage a PEEK's read may find (R42). -/
def State.peekRead (s : State) (n : Nat) : State :=
  match s.slot n with
  | some (.record _ b p parity) => if readsClean p parity then s else s.damageRecord n b p parity
  | some (.damaged _ _ _) | some .unattributed => s
  | none => s

/-- PEEK served (R42). -/
def servePeek (tag : Byte) (slot : BitVec 16) (s : State) : State :=
  if Config.recordSlots ≤ slot.toNat then s.outOfRange 0x05 tag 0
  else (s.peekRead slot.toNat).answer 0x05 tag .slot ((s.peekRead slot.toNat).recordReport slot.toNat)

/-! ## The meanings -/

def execLodge (tag board : Byte) (k : Key) (cls : Byte) (routerTag : Option (BitVec 32)) (s : State) :
    Host.Outcome State Fault Refusal :=
  takeRequest (.lodge tag board k cls routerTag) (serveLodge tag board k cls routerTag) s

def execAdvance (tag : Byte) (k : Key) (approval : BitVec 32) (s : State) : Host.Outcome State Fault Refusal :=
  takeRequest (.advance tag k approval) (serveAdvance tag k approval) s

def execRelease (tag : Byte) (k : Key) (outcome : Byte) (s : State) : Host.Outcome State Fault Refusal :=
  takeRequest (.release tag k outcome) (serveRelease tag k outcome) s

def execLookup (tag : Byte) (k : Key) (s : State) : Host.Outcome State Fault Refusal :=
  takeRequest (.lookup tag k) (serveLookup tag k) s

def execPeek (tag : Byte) (slot : BitVec 16) (s : State) : Host.Outcome State Fault Refusal :=
  takeRequest (.peek tag slot) (servePeek tag slot) s

end Sys2Proof.Machine
end

