-- ==== Sys2Proof/Machine/Handover.lean ====
section
/-! DEFINITION. The handover requests TAKE and PURGE (R126 to R129). -/

namespace Sys2Proof.Machine

/-! ## TAKE -/

/-- The structure tests of a TAKE of m records, made before any is retired: each slot the walk reaches is linked to the
board, and a list that would be left empty has the outstanding count's length (R152). -/
def State.takeSound (s : State) (b : Bd) (m : Nat) : Bool :=
  ((s.list b).take m).all (s.linkedTo b) && (decide (m < (s.list b).length) || s.countAgrees b)

/-- One record of a TAKE batch: read, entered in the answer, offered, retired (R127 steps 1 to 4). -/
def State.takeOne (s : State) (b : Bd) (n : Nat) : State × List Byte :=
  match s.slot n with
  | some (.record _ _ p parity) =>
    if readsClean p parity then
      ((s.offer .take n b p.key p.watchSet).retire n, recordEntry n (s.slot n) true)
    else
      let t := s.damageRecord n b p parity
      (t.retire n, recordEntry n (t.slot n) true)
  | some (.damaged _ _ _) | some .unattributed => (s.retire n, recordEntry n (s.slot n) true)
  | none => (s, [])

/-- The batch, record by record from the head of the list (R127). -/
def State.takeBatch (b : Bd) : List Nat → State → State × List Byte
  | [], s => (s, [])
  | n :: rest, s =>
    let one := s.takeOne b n
    let more := State.takeBatch b rest one.1
    (more.1, one.2 ++ more.2)

/-- A TAKE of m records that passed every test, with its answer (R127, R165). -/
def State.takeRecords (s : State) (tag : Byte) (b : Bd) (m : Nat) : State :=
  let batch := State.takeBatch b ((s.list b).take m) s
  batch.1.answer 0x0B tag .accepted
    ([BitVec.ofNat 8 b.val, BitVec.ofNat 8 m, (batch.1.board b).state.byte] ++ be 2 (batch.1.board b).outstanding
      ++ optTime (s.board b).verdictTime ++ batch.2)

/-- TAKE served (R126, R152). -/
def serveTake (tag board n : Byte) (s : State) : State :=
  if s.halted then s.answer 0x0B tag .halted []
  else match toBd board with
    | none => s.outOfRange 0x0B tag 0
    | some b =>
      if !inRange n.toNat 1 8 then s.outOfRange 0x0B tag 1
      else if (s.board b).state ≠ .silent then s.refuseBoardState 0x0B tag b
      else if !s.takeSound b (min n.toNat (s.board b).outstanding) then
        (s.enterHalted (.custodyList b)).answer 0x0B tag .halted []
      else s.takeRecords tag b (min n.toNat (s.board b).outstanding)

/-! ## PURGE -/

/-- Slot n is DAMAGED. -/
def State.isDamagedSlot (s : State) (n : Nat) : Bool :=
  match s.slot n with
  | some x => x.isDamaged
  | none => false

/-- The DAMAGED records of board b's list, in list order (R129). -/
def State.damagedOf (s : State) (b : Bd) : List Nat := (s.list b).filter s.isDamagedSlot

/-- The structure tests of a PURGE: the whole list is walked, and a list that would be left empty has the outstanding
count's length (R152; log 23). -/
def State.purgeSound (s : State) (b : Bd) : Bool :=
  (s.list b).all (s.linkedTo b)
    && ((s.list b).isEmpty || decide ((s.damagedOf b).length < (s.list b).length) || s.countAgrees b)

/-- The slots retired one after another. -/
def State.retireAll (s : State) (ns : List Nat) : State := ns.foldl State.retire s

/-- PURGE of a board slot (R129). -/
def State.purgeBoard (s : State) (tag : Byte) (b : Bd) : State :=
  if !s.purgeSound b then (s.enterHalted (.custodyList b)).answer 0x0C tag .halted []
  else
    let t := s.retireAll (s.damagedOf b)
    t.answer 0x0C tag .accepted
      (be 2 (s.damagedOf b).length ++ [(t.board b).state.byte] ++ be 2 (t.board b).outstanding ++ be 2 (t.board b).damaged)

/-- PURGE with 255 (R129, R165). -/
def State.purgeUnattributed (s : State) (tag : Byte) : State :=
  let t := s.retireAll s.unattributed
  t.answer 0x0C tag .accepted (be 2 s.unattributed.length ++ [255] ++ be 2 0 ++ be 2 t.unattributed.length)

/-- PURGE served (R129). -/
def servePurge (tag board : Byte) (s : State) : State :=
  if s.halted then s.answer 0x0C tag .halted []
  else if board = 255 then s.purgeUnattributed tag
  else match toBd board with
    | none => s.outOfRange 0x0C tag 0
    | some b => s.purgeBoard tag b

/-! ## The meanings -/

def execTake (tag board n : Byte) (s : State) : Host.Outcome State Fault Refusal :=
  takeRequest (.take tag board n) (serveTake tag board n) s

def execPurge (tag board : Byte) (s : State) : Host.Outcome State Fault Refusal :=
  takeRequest (.purge tag board) (servePurge tag board) s

end Sys2Proof.Machine
end

