-- ==== Sys2Proof/Machine/ParamGroups.lean ====
section
/-! DEFINITION. SETGROUP of each parameter group, and GETGROUP (R169 and each group's own rule). -/

namespace Sys2Proof.Machine

/-- A SETGROUP answered: OUT_OF_RANGE with the first offending field, the group unchanged; or the write, the effects its
rule names and ACCEPTED with the group and valid 1 (R169). -/
def State.setgroup (s : State) (tag : Byte) (number : Nat) (offending : Option Nat) (write : State → State) : State :=
  match offending with
  | some i => s.outOfRange 0x10 tag (BitVec.ofNat 8 i)
  | none => (write s).answer 0x10 tag .accepted [BitVec.ofNat 8 number, 1]

/-- The first check that fails: the fields in order, then the combination checks, each with the index it answers. -/
def firstFailure (fields : List Bool) (combinations : List (Bool × Nat)) : Option Nat :=
  match firstOffending 0 fields with
  | some i => some i
  | none => (combinations.find? fun c => !c.1).map (·.2)

/-! ## Range and combination checks -/

/-- R47. -/
def checkTimebase (f : Timebase) : Option Nat :=
  firstFailure [inRange f.pre.toNat 0 3, inRange f.div.toNat 0 3, inRange f.vpt.toNat 0 5] []

/-- R61: AUTH_CEIL below AUTH_FLOOR gives index 1. -/
def checkProfile (f : Profile) : Option Nat :=
  firstFailure
    [inRange f.authFloor.toNat 1 65535, inRange f.authCeil.toNat 1 65535, inRange f.k.toNat 4 255,
      inRange f.settle.toNat 1 16777215]
    [(decide (f.authFloor.toNat ≤ f.authCeil.toNat), 1)]

/-- R63. -/
def checkLatency (f : Latency) : Option Nat :=
  firstFailure [inRange f.seedLat.toNat 1 65535, inRange f.gain.toNat 1 6] []

/-- R95: six zero weights give index 0. -/
def checkWeights (f : Weights) : Option Nat :=
  firstFailure
    [inRange f.wAuth.toNat 0 1023, inRange f.wSettle.toNat 0 1023, inRange f.wStall.toNat 0 1023,
      inRange f.wLost.toNat 0 1023, inRange f.wRacing.toNat 0 1023, inRange f.wXcheck.toNat 0 1023]
    [(decide (f ≠ ⟨0, 0, 0, 0, 0, 0⟩), 0)]

/-- R100: H at or above A gives index 1, V at or below A gives index 2. -/
def checkThresholds (f : Thresholds) : Option Nat :=
  firstFailure
    [inRange f.alert.toNat 2 4094, inRange f.hysteresis.toNat 1 4093, inRange f.verdict.toNat 3 4095,
      inRange f.creditShift.toNat 1 8]
    [(decide (f.hysteresis.toNat < f.alert.toNat), 1), (decide (f.alert.toNat < f.verdict.toNat), 2)]

/-- R90: HB_MAX at or below HB_MIN gives index 1. -/
def checkHeartbeat (f : Heartbeat) : Option Nat :=
  firstFailure
    [inRange f.hbMin.toNat 1 65535, inRange f.hbMax.toNat 1 65535, inRange f.stallLimit.toNat 1 16777215,
      inRange f.grace.toNat 1 255, inRange f.gdiv.toNat 0 3]
    [(decide (f.hbMin.toNat < f.hbMax.toNat), 1)]

/-- R131: MAX_DOWN below the down count gives index 0. -/
def checkGuard (down : Nat) (f : Guard) : Option Nat :=
  firstFailure [inRange f.maxDown.toNat 1 16, inRange f.ccPct.toNat 0 100, inRange f.xchkTol.toNat 0 1023]
    [(decide (down ≤ f.maxDown.toNat), 0)]

/-- R19. -/
def checkTable (f : TableSettings) : Option Nat :=
  firstFailure [inRange f.quota.toNat 1 8192, inRange f.highMark.toNat 257 8192] []

/-- R148. -/
def checkMasks (f : Masks) : Option Nat :=
  firstFailure [inRange f.noticeMask.toNat 0 4095, inRange f.faultMask.toNat 0 31] []

/-! ## The writes and their effects -/

/-- TIMEBASE: the pending flag is set (R47). -/
def writeTimebase (f : Timebase) (s : State) : State :=
  { s.modifyGroups fun g => { g with timebase := .written f } with timebasePending := true }.afterSetgroup

/-- A profile group (R61). -/
def writeProfile (c : Fin 4) (f : Profile) (s : State) : State :=
  (s.modifyGroups fun g => { g with profiles := g.profiles.set c.val (.written f) c.isLt }).afterSetgroup

/-- LATENCY (R63). -/
def writeLatency (f : Latency) (s : State) : State :=
  (s.modifyGroups fun g => { g with latency := .written f }).afterSetgroup

/-- WEIGHTS: the Board Table takes the effective weights (R95). -/
def writeWeights (f : Weights) (s : State) : State :=
  { s.modifyGroups fun g => { g with weights := .written f } with effWeights := f }.afterSetgroup

/-- What a DOUBTFUL board does under new thresholds, once it has left the pending set if it is below V: back to LIVE below
A - H, else a verdict request if one is due (R100). -/
def State.reevaluateDoubtful (s : State) (b : Bd) : State := if s.returnsToLive b then s.backToLive b else s.requestIfDue b

/-- One board re-evaluated under new thresholds (R100). -/
def State.reevaluateBoard (s : State) (b : Bd) : State :=
  match (s.board b).state with
  | .live => (s.doubtIfAlerted b .thresholds).requestIfDue b
  | .doubtful => (s.leavePendingIfBelow b).reevaluateDoubtful b
  | .absent | .warming | .silent | .drained => s

/-- THRESHOLDS: the effective thresholds, the re-evaluation of every board in slot order, then the reconsideration (R100,
R121; the order is a DESIGN CHOICE, log 19). -/
def writeThresholds (f : Thresholds) (s : State) : State :=
  (allBoards.foldl State.reevaluateBoard
    { s.modifyGroups fun g => { g with thresholds := .written f } with effThresholds := f }).afterSetgroup

/-- HEARTBEAT (R90). -/
def writeHeartbeat (f : Heartbeat) (s : State) : State :=
  (s.modifyGroups fun g => { g with heartbeat := .written f }).afterSetgroup

/-- GUARD: the common-cause state is re-evaluated and the pending set reconsidered (R131). -/
def writeGuard (f : Guard) (s : State) : State :=
  (s.modifyGroups fun g => { g with guard := .written f }).reevaluateCommon.reconsider

/-- TABLE: the table-high flag is set if occupancy is below the new mark, and cleared otherwise (R17, R19). -/
def writeTable (f : TableSettings) (s : State) : State :=
  { s.modifyGroups fun g => { g with table := .written f } with
    tableHighArmed := decide (s.occupancy < f.highMark.toNat) }.afterSetgroup

/-- MASKS: the Notice Unit takes the effective masks (R148); the lines are driven anew with the request's end. -/
def writeMasks (f : Masks) (s : State) : State :=
  { s.modifyGroups fun g => { g with masks := .written f } with
    noticeMask := f.noticeMask, faultMask := f.faultMask }.afterSetgroup

/-! ## Served -/

def serveSetTimebase (tag : Byte) (f : Timebase) (s : State) : State :=
  s.setgroup tag 0 (checkTimebase f) (writeTimebase f)

def serveSetProfile (tag : Byte) (c : Fin 4) (f : Profile) (s : State) : State :=
  s.setgroup tag (1 + c.val) (checkProfile f) (writeProfile c f)

def serveSetLatency (tag : Byte) (f : Latency) (s : State) : State :=
  s.setgroup tag 5 (checkLatency f) (writeLatency f)

def serveSetWeights (tag : Byte) (f : Weights) (s : State) : State :=
  s.setgroup tag 6 (checkWeights f) (writeWeights f)

def serveSetThresholds (tag : Byte) (f : Thresholds) (s : State) : State :=
  s.setgroup tag 7 (checkThresholds f) (writeThresholds f)

def serveSetHeartbeat (tag : Byte) (f : Heartbeat) (s : State) : State :=
  s.setgroup tag 8 (checkHeartbeat f) (writeHeartbeat f)

def serveSetGuard (tag : Byte) (f : Guard) (s : State) : State :=
  s.setgroup tag 9 (checkGuard s.down f) (writeGuard f)

def serveSetTable (tag : Byte) (f : TableSettings) (s : State) : State :=
  s.setgroup tag 10 (checkTable f) (writeTable f)

def serveSetMasks (tag : Byte) (f : Masks) (s : State) : State :=
  s.setgroup tag 11 (checkMasks f) (writeMasks f)

/-! ## GETGROUP (R169) -/

/-- The payload of GROUP: the group number, its valid flag and its stored fields. -/
def groupPayload {α : Type} (number : Nat) (bytes : α → List Byte) (g : Group α) : List Byte :=
  [BitVec.ofNat 8 number, BitVec.ofNat 8 g.valid.toNat] ++ bytes g.fields

/-- The payload of GROUP for a group number; none outside 0..11. -/
def State.groupReport (s : State) : Nat → Option (List Byte)
  | 0 => some (groupPayload 0 Timebase.bytes s.groups.timebase)
  | 1 => some (groupPayload 1 Profile.bytes (s.profile 0))
  | 2 => some (groupPayload 2 Profile.bytes (s.profile 1))
  | 3 => some (groupPayload 3 Profile.bytes (s.profile 2))
  | 4 => some (groupPayload 4 Profile.bytes (s.profile 3))
  | 5 => some (groupPayload 5 Latency.bytes s.groups.latency)
  | 6 => some (groupPayload 6 Weights.bytes s.groups.weights)
  | 7 => some (groupPayload 7 Thresholds.bytes s.groups.thresholds)
  | 8 => some (groupPayload 8 Heartbeat.bytes s.groups.heartbeat)
  | 9 => some (groupPayload 9 Guard.bytes s.groups.guard)
  | 10 => some (groupPayload 10 TableSettings.bytes s.groups.table)
  | 11 => some (groupPayload 11 Masks.bytes s.groups.masks)
  | _ => none

/-- GETGROUP served (R169). -/
def serveGetgroup (tag group : Byte) (s : State) : State :=
  match s.groupReport group.toNat with
  | none => s.outOfRange 0x11 tag 255
  | some p => s.answer 0x11 tag .group p

/-! ## The meanings -/

def execSetgroupTimebase (tag : Byte) (f : Timebase) (s : State) : Host.Outcome State Fault Refusal :=
  takeRequest (.setgroupTimebase tag f) (serveSetTimebase tag f) s

def execSetgroupProfile (tag : Byte) (c : Fin 4) (f : Profile) (s : State) : Host.Outcome State Fault Refusal :=
  takeRequest (.setgroupProfile tag c f) (serveSetProfile tag c f) s

def execSetgroupLatency (tag : Byte) (f : Latency) (s : State) : Host.Outcome State Fault Refusal :=
  takeRequest (.setgroupLatency tag f) (serveSetLatency tag f) s

def execSetgroupWeights (tag : Byte) (f : Weights) (s : State) : Host.Outcome State Fault Refusal :=
  takeRequest (.setgroupWeights tag f) (serveSetWeights tag f) s

def execSetgroupThresholds (tag : Byte) (f : Thresholds) (s : State) : Host.Outcome State Fault Refusal :=
  takeRequest (.setgroupThresholds tag f) (serveSetThresholds tag f) s

def execSetgroupHeartbeat (tag : Byte) (f : Heartbeat) (s : State) : Host.Outcome State Fault Refusal :=
  takeRequest (.setgroupHeartbeat tag f) (serveSetHeartbeat tag f) s

def execSetgroupGuard (tag : Byte) (f : Guard) (s : State) : Host.Outcome State Fault Refusal :=
  takeRequest (.setgroupGuard tag f) (serveSetGuard tag f) s

def execSetgroupTable (tag : Byte) (f : TableSettings) (s : State) : Host.Outcome State Fault Refusal :=
  takeRequest (.setgroupTable tag f) (serveSetTable tag f) s

def execSetgroupMasks (tag : Byte) (f : Masks) (s : State) : Host.Outcome State Fault Refusal :=
  takeRequest (.setgroupMasks tag f) (serveSetMasks tag f) s

def execGetgroup (tag group : Byte) (s : State) : Host.Outcome State Fault Refusal :=
  takeRequest (.getgroup tag group) (serveGetgroup tag group) s

end Sys2Proof.Machine
end

