-- ==== Sys2Proof/Machine/Resets.lean ====
section
/-! DEFINITION. The resets: CLEAR takes the custody reset (R170), PIN_RESET and RESET_N_RELEASED drive the RESET_N pin. -/

namespace Sys2Proof.Machine

/-! ## The custody reset (R170) -/

/-- The Custody Table freed and rebuilt (R21). -/
def State.freeTable (s : State) : State :=
  { s with
    slots := [], index := [], free := slotsFrom 0 Config.recordSlots, lists := Vector.replicate 32 []
    unattributed := [], occupancy := 0, tableHighArmed := true }

/-- A board record at a custody reset: an enrolled board enters WARMING with nothing outstanding, an ABSENT one keeps its
fields (R92). -/
def Board.custodyReset (x : Board) (seed : Nat) (graceEnd : Time) : Board :=
  if x.state = .absent then x else { x.warmed seed graceEnd with outstanding := 0, damaged := 0 }

/-- A line's record at a custody reset: cleared with an enrolled board, kept with an ABSENT one (R102). -/
def lineReset (x : Board) (l : Line) : Line := if x.state = .absent then l else Line.reset

/-- Every enrolled board moved to WARMING with the same grace end, and its line cleared (R92, R102). -/
def State.warmBoards (s : State) : State :=
  { s with
    boards := s.boards.map fun x => x.custodyReset s.seed (s.after s.graceLength)
    lines := Vector.zipWith lineReset s.boards s.lines }

/-- The number of enrolled boards. -/
def State.enrolled (s : State) : Nat := (allBoards.filter fun b => decide ((s.board b).state ≠ .absent)).length

/-- The Verdict Unit counted anew; no COMMON is latched (R132, R149). -/
def State.countAnew (s : State) : State :=
  { s with active := s.enrolled, doubtful := 0, down := 0, commonCause := false, withheld := Vector.replicate 32 none }

/-- A running test ends ABORTED with no causes; inject and the findings are kept (R159, log 28). -/
def SelfTest.aborted (t : SelfTest) : SelfTest :=
  if t.running then { t with running := false, phase := .none, result := .aborted, causes := .empty } else t

/-- The sweep restarted: RUNNING at position 0, the pass start awaited as the next TU begins (R59). -/
def State.restartSweep (s : State) : State :=
  { s with sweepRunning := true, sweepPosition := 0, pass := .awaiting (s.clock + 1) }

/-- The custody reset as one event (R21, R59, R76, R92, R132, R149, R153, R159, R170). The effective visit rate and the
clamped flag, which no rule names here, stay as they stood until the pass start that follows (DESIGN CHOICE, log 39). -/
def State.custodyReset (s : State) : State :=
  { s.freeTable.warmBoards.countAnew.restartSweep with
    latches := .clear, testRecord := .reset, selfTest := s.selfTest.aborted, halted := false }

/-- CLEAR served: the answer is formed after the reset, with the clock and the number of boards moved (R170). -/
def serveClear (tag : Byte) (s : State) : State :=
  s.custodyReset.answer 0x15 tag .accepted (be 4 s.clock.toNat ++ [BitVec.ofNat 8 s.enrolled])

/-! ## RESET_N -/

/-- RESET_N goes low: every block takes its pin-reset values, in any state (R20, R58, R91, R115, R132, R141, R149, R154,
R159, R161). The commands still waiting and the model's counter of free values are no state of the part (logs 9, 14). -/
def State.pinReset (s : State) : State := { State.held with pending := s.pending, freeValues := s.freeValues }

/-- RESET_N returns high: READY is asserted, the receiver is HUNTING, and the first pass start is due at once (R58, R161). -/
def State.releaseReset (s : State) : State :=
  if s.resetHeld then { s with resetHeld := false, ready := true, rx := .hunting, pass := .awaiting s.clock } else s

/-! ## The meanings -/

def execClear (tag : Byte) (s : State) : Host.Outcome State Fault Refusal := takeRequest (.clear tag) (serveClear tag) s

def execPinReset (s : State) : Host.Outcome State Fault Refusal := .next s.pinReset

def execResetNReleased (s : State) : Host.Outcome State Fault Refusal := .next s.releaseReset

end Sys2Proof.Machine
end

