-- ==== Sys2Proof/Machine/SelfTest.lean ====
section
/-! DEFINITION. The verification of the parameter groups (R154), and the request TEST with phases 1 and 2 of the self-test
(R156, R157). Phase 3 is carried by the Aging Sweep in TimeEvents.lean. -/

namespace Sys2Proof.Machine

/-! ## Verification of the groups (R50 step 2, R154, R157 phase 1) -/

/-- The groups valid before and invalid after, bit n for group n. -/
def newlyFailed (old new : Groups) : BitVec 16 :=
  BitVec.ofNat 16 (ofBits (List.zipWith (fun was is => was && !is) old.valids new.valids))

/-- Every group's check code verified: a valid group that fails is marked invalid and joins the PARAM_FAULT latch (R154). -/
def State.verifyGroups (s : State) : State :=
  let failed := newlyFailed s.groups s.groups.verify
  let t := { s with groups := s.groups.verify }
  if failed = 0 then t else t.latchParamFault failed

/-! ## Phase 2: the score arithmetic on the test record (R157) -/

/-- The largest of the six weights. -/
def Weights.largest (w : Weights) : Nat :=
  max w.wAuth.toNat (max w.wSettle.toNat (max w.wStall.toNat (max w.wLost.toNat (max w.wRacing.toNat w.wXcheck.toNat))))

/-- Steps 1 and 2 of R97 on the test record, with weight w and alert level a. -/
def TestRecord.charged (r : TestRecord) (w a : Nat) : TestRecord :=
  let score := min 4095 (r.score + w)
  { r with
    score := score, charges := min 65535 (r.charges + 1)
    state := if r.state = .live ∧ a ≤ score then .doubtful else r.state }

/-- Where the compare phase stands: the test record, the charges applied, and n_A (0 until it is noted). -/
structure CompareRun where
  record : TestRecord
  count : Nat
  nA : Nat
  deriving DecidableEq, Repr

/-- One charge of the compare phase: n_A is the count at which the record becomes DOUBTFUL. -/
def CompareRun.next (r : CompareRun) (w a : Nat) : CompareRun :=
  let q := r.record.charged w a
  { record := q, count := r.count + 1, nA := if r.record.state = .live ∧ q.state = .doubtful then r.count + 1 else r.nA }

/-- Step 3 of R97 finds a verdict request due. -/
def CompareRun.stops (r : CompareRun) (v : Nat) : Bool := decide (r.record.state = .doubtful ∧ v ≤ r.record.score)

/-- Charges one after another until step 3 finds S at or above V. With a weight of at least 1 and V at most 4095, 4096
charges are enough (log 34). -/
def compareRounds (w a v : Nat) : Nat → CompareRun → CompareRun
  | 0, r => r
  | k + 1, r => if (r.next w a).stops v then r.next w a else compareRounds w a v k (r.next w a)

/-- The whole compare phase from LIVE with S 0 and charges 0. -/
def compareRun (w a v : Nat) : CompareRun := compareRounds w a v 4096 ⟨⟨.live, 0, 0, false⟩, 0, 0⟩

/-- ceil(n / w) of 00_scope 5.2. -/
def ceilDiv (n w : Nat) : Nat := (n + w - 1) / w

/-- The causes phases 1 and 2 record (R157). -/
def compareCauses (groupsInvalid inject : Bool) (w a v : Nat) : TestCauses :=
  let r := compareRun w a v
  { group := groupsInvalid
    compare := decide (r.nA ≠ ceilDiv a w) || decide (r.count ≠ ceilDiv v w)
    memory := false
    injected := inject && decide (r.nA ≠ ceilDiv a w + 1) }

/-! ## TEST (R156) -/

/-- A TEST that passed its checks: phases 1 and 2 are run and the phase becomes WAITING. The test record ends ABSENT with
S 0; its charges count keeps n_V until the next test or reset (R157 step 4, log 29). -/
def State.startTest (s : State) (inject : Bool) : State :=
  let t := s.verifyGroups
  let w := Weights.largest t.effWeights
  let r := compareRun w t.levelA t.levelV
  { t with
    testRecord := { r.record with state := .absent, score := 0 }
    selfTest :=
      { running := true, phase := .waiting, result := .none
        causes := compareCauses (!t.allValid) inject w t.levelA t.levelV
        inject := inject, invalidGroups := t.invalidSet, nA := r.nA, nV := r.count, memoryFailures := 0 } }

/-- TEST served (R156). -/
def serveTest (tag inject : Byte) (s : State) : State :=
  if s.halted then s.answer 0x14 tag .halted []
  else if 1 < inject.toNat then s.outOfRange 0x14 tag 0
  else if s.selfTest.running then s.answer 0x14 tag .busy [BitVec.ofNat 8 s.selfTest.phase.number]
  else (s.startTest (decide (inject = 1))).answer 0x14 tag .accepted [1]

/-! ## The meaning -/

def execTest (tag inject : Byte) (s : State) : Host.Outcome State Fault Refusal :=
  takeRequest (.test tag inject) (serveTest tag inject) s

end Sys2Proof.Machine
end

