-- ==== Sys2Proof/Machine/Status.lean ====
section
/-! DEFINITION. The status requests DEVICE, NOTICE and IDENT (R60, R133, R144, R145, R168, R170). -/

namespace Sys2Proof.Machine

/-! ## The settings of a watch unit as bytes (R163, R165) -/

def WatchKind.byte : WatchKind → Byte
  | .key => 0 | .board => 1 | .range => 2

/-- The 17 setting bytes of a unit in request order from enable (R165). -/
def WatchUnit.bytes (u : WatchUnit) : List Byte :=
  [BitVec.ofNat 8 u.enable.toNat, u.kind.byte] ++ keyBytes u.value ++ keyBytes u.mask
    ++ [BitVec.ofNat 8 u.low.val, BitVec.ofNat 8 u.high.val, u.events.zeroExtend 8]

/-- The pair byte: bit 0 paired, bit 1 range empty (R136, R165). -/
def State.pairByte (s : State) : Byte := bitsByte [s.paired, s.paired && s.rangeEmpty]

/-! ## DEVICE (R168) -/

/-- The flags byte of part 0. -/
def State.deviceFlags (s : State) : Byte :=
  bitsByte [s.clamped, s.timebasePending, s.sweepRunning, s.halted, s.tableHighArmed, s.commonCause, !s.attnN, !s.faultN]

/-- The test byte of part 0: RUNNING, inject, phase, result. -/
def SelfTest.statusByte (t : SelfTest) : Byte :=
  BitVec.ofNat 8 (t.running.toNat + 2 * t.inject.toNat + 4 * t.phase.number + 16 * t.result.number)

/-- Part 0 of the device status, 37 bytes. -/
def State.devicePart0 (s : State) : List Byte :=
  [0] ++ be 4 s.clock.toNat
    ++ [BitVec.ofNat 8 s.prescale, BitVec.ofNat 8 s.divider, BitVec.ofNat 8 s.configuredVpt, BitVec.ofNat 8 s.effectiveVpt,
        s.deviceFlags]
    ++ be 2 s.sweepPosition ++ be 2 s.occupancy ++ be 2 s.unattributed.length
    ++ [BitVec.ofNat 8 s.active, BitVec.ofNat 8 s.doubtful, BitVec.ofNat 8 s.down, BitVec.ofNat 8 s.maxDown,
        BitVec.ofNat 8 s.ccPct]
    ++ be 2 (ofBits s.groups.valids)
    ++ [bitsByte s.faultConditions, s.faultMask]
    ++ be 2 s.noticeMask.toNat
    ++ [s.selfTest.statusByte, s.selfTest.causes.byte]
    ++ be 2 s.selfTest.invalidGroups.toNat ++ be 2 s.selfTest.nA ++ be 2 s.selfTest.nV ++ be 2 s.selfTest.memoryFailures

/-- The withhold cause of a board as a byte, 0 for none (R164). -/
def State.causeByte (s : State) (b : Bd) : Byte := ((s.cause b).map Cause.byte).getD 0

/-- Part 1: the pending set in the order in which the arbiter would grant it (R133). -/
def State.devicePart1 (s : State) : List Byte :=
  [1, BitVec.ofNat 8 s.grantOrder.length] ++ s.grantOrder.flatMap fun b => [BitVec.ofNat 8 b.val, s.causeByte b]

/-- Part 2: the pair byte and the four units, 70 bytes. -/
def State.devicePart2 (s : State) : List Byte := [2, s.pairByte] ++ allUnits.flatMap fun u => (s.unit u).bytes

/-- A part of the device status; none outside 0..2. -/
def State.devicePart (s : State) : Nat → Option (List Byte)
  | 0 => some s.devicePart0
  | 1 => some s.devicePart1
  | 2 => some s.devicePart2
  | _ => none

/-- DEVICE served (R168). -/
def serveDevice (tag part : Byte) (s : State) : State :=
  match s.devicePart part.toNat with
  | none => s.outOfRange 0x0F tag 0
  | some p => s.answer 0x0F tag .status p

/-! ## NOTICE: contents (R143, R168) and snapshots (R145, R168) -/

/-- The 11-byte board snapshot. Verdict time and outstanding are 0 outside SILENT and DRAINED. -/
def State.boardSnapshot (s : State) (b : Bd) : List Byte :=
  let x := s.board b
  [x.state.byte] ++ be 2 x.score ++ [BitVec.ofNat 8 x.pending.toNat, s.causeByte b]
    ++ (if x.state.isDown then optTime x.verdictTime ++ be 2 x.outstanding else List.replicate 6 0)

def VerdictPath.byte : VerdictPath → Byte
  | .automatic => 0 | .declared => 1

def CommonChange.byte : CommonChange → Byte
  | .entry => 0 | .exit => 1

/-- The structure of a HALTED notice: 0 key index, 1 custody list, and its board. -/
def Structure.bytes : Structure → List Byte
  | .keyIndex => [0, 255]
  | .custodyList b => [1, BitVec.ofNat 8 b.val]

/-- The board or unit byte of a notice, 255 for a device-wide kind (R168). -/
def LatchRef.place : LatchRef → Byte
  | .verdict b | .withheld b | .doubt b | .heartbeat b => BitVec.ofNat 8 b.val
  | .watch u => BitVec.ofNat 8 u.val
  | .halted | .paramFault | .common | .damage | .tableHigh | .testDone | .link => 255

/-- The set time and the content of a set latch (R143, R168); none for a clear one. -/
def Latches.content (l : Latches) : LatchRef → Option (Time × List Byte)
  | .halted => l.halted.map fun x => (x.time, x.what.bytes)
  | .paramFault => l.paramFault.map fun x => (x.time, be 2 x.groups.toNat)
  | .verdict b => l.verdict[b.val].map fun x => (x.time, [x.path.byte])
  | .common => l.common.map fun x => (x.time, [x.change.byte, BitVec.ofNat 8 x.again.toNat])
  | .withheld b => l.withheld[b.val].map fun x => (x.time, [x.cause.byte])
  | .doubt b => l.doubt[b.val].map fun x => (x.time, [x.item.byte])
  | .heartbeat b => l.heartbeat[b.val].map fun x => (x.time, [bitsByte [x.lost, x.racing]])
  | .damage => l.damage.map fun x => (x.time, be 2 x.slot ++ [optBoardByte x.board, BitVec.ofNat 8 x.count])
  | .tableHigh => l.tableHigh.map fun x => (x.time, be 2 x.occupancy)
  | .testDone => l.testDone.map fun x => (x.time, [BitVec.ofNat 8 x.result.number, x.causes.byte])
  | .watch u => l.watch[u.val].map fun x =>
      (x.time, [BitVec.ofNat 8 x.event.number] ++ be 2 x.slot ++ [BitVec.ofNat 8 x.board.val] ++ keyBytes x.key
        ++ [BitVec.ofNat 8 x.overrun.toNat])
  | .link => l.link.map fun x => (x.time, [BitVec.ofNat 8 x.count])

/-- The slot a WATCH latch names. -/
def Latches.watchSlot (l : Latches) (u : Fin 4) : Nat := (l.watch[u.val].map (·.slot)).getD 0

/-- The snapshot of the thing a notice concerns, as it stands when NOTICE is taken (R145, R168). -/
def State.snapshot (s : State) : LatchRef → List Byte
  | .halted => [BitVec.ofNat 8 s.halted.toNat] ++ be 2 s.sweepPosition
  | .paramFault => be 2 s.invalidSet.toNat
  | .verdict b | .withheld b | .doubt b | .heartbeat b => s.boardSnapshot b
  | .common => [BitVec.ofNat 8 s.commonCause.toNat, BitVec.ofNat 8 s.active, BitVec.ofNat 8 s.doubtful]
  | .damage => be 2 s.damagedSlots
  | .tableHigh => be 2 s.occupancy ++ be 2 s.highMark
  | .testDone => [BitVec.ofNat 8 s.selfTest.running.toNat]
  | .watch u => [stageByte (s.slot (s.latches.watchSlot u))]
  | .link => [BitVec.ofNat 8 s.buffer.length]

/-- The latch NOTICE returns: the first set one in fetch order (R144). -/
def Latches.chosen (l : Latches) : Option LatchRef := latchOrder.find? l.isSet

/-- The number of set latches (R144). -/
def Latches.countSet (l : Latches) : Nat := (latchOrder.filter l.isSet).length

/-- The payload of a NOTICE answer for a latch: kind, place, set time, remaining count, content, snapshot (R168). -/
def State.noticePayload (s : State) (r : LatchRef) : List Byte :=
  let c := (s.latches.content r).getD (0, [])
  [BitVec.ofNat 8 r.priority, r.place] ++ be 4 c.1.toNat ++ [BitVec.ofNat 8 (s.latches.cleared r).countSet] ++ c.2
    ++ s.snapshot r

/-- NOTICE served (R144): the chosen latch is read, its snapshot taken, and it is cleared, as one change. -/
def serveNotice (tag : Byte) (s : State) : State :=
  match s.latches.chosen with
  | none => s.answer 0x13 tag .none [0]
  | some r => (s.modifyLatches fun l => l.cleared r).answer 0x13 tag .notice (s.noticePayload r)

/-! ## IDENT (R170) -/

/-- The seven bytes of IDENT: part code, silicon revision, record slots, board slots, largest request payload. -/
def identPayload : List Byte :=
  be 2 Config.partCode.toNat ++ [Config.siliconRevision] ++ be 2 Config.recordSlots ++ [32, 48]

/-- IDENT served: it changes nothing (R170). -/
def serveIdent (tag : Byte) (s : State) : State := s.answer 0x16 tag .accepted identPayload

/-! ## The meanings -/

def execDevice (tag part : Byte) (s : State) : Host.Outcome State Fault Refusal :=
  takeRequest (.device tag part) (serveDevice tag part) s

def execNotice (tag : Byte) (s : State) : Host.Outcome State Fault Refusal :=
  takeRequest (.notice tag) (serveNotice tag) s

def execIdent (tag : Byte) (s : State) : Host.Outcome State Fault Refusal :=
  takeRequest (.ident tag) (serveIdent tag) s

end Sys2Proof.Machine
end

