-- ==== Sys2Proof/Machine/WatchCommands.lean ====
section
/-! DEFINITION. The request SETWATCH (R135, R136, R163). -/

namespace Sys2Proof.Machine

/-- The kind a SETWATCH byte names for unit u: RANGE is for unit 0 alone (R135, R163). -/
def watchKind (u : Fin 4) (b : Byte) : Option WatchKind :=
  if b = 0 then some .key
  else if b = 1 then some .board
  else if b = 2 ∧ u = 0 then some .range
  else none

/-- Unit u's settings, or the index of the field that fails first: kind 2, board low 5, board high 6, low above high 6
(R135). -/
def checkWatch (u : Fin 4) (w : WatchSettings) : Except Byte WatchUnit :=
  match watchKind u w.kind with
  | none => .error 2
  | some kind =>
    match toBd w.low with
    | none => .error 5
    | some low =>
      match toBd w.high with
      | none => .error 6
      | some high =>
        if high < low then .error 6
        else .ok { enable := decide (w.enable ≠ 0), kind := kind, value := w.value, mask := w.mask
                   low := low, high := high, events := w.events.truncate 6 }

/-- A watch unit written whole (R135). -/
def State.setUnit (s : State) (u : Fin 4) (w : WatchUnit) : State := { s with units := s.units.set u.val w u.isLt }

/-- SETWATCH served (R135). The answer gives the unit as stored and the pair byte as it stands after the request. -/
def serveSetwatch (tag unit : Byte) (w : WatchSettings) (s : State) : State :=
  if h : unit.toNat < 4 then
    match checkWatch ⟨unit.toNat, h⟩ w with
    | .error field => s.outOfRange 0x12 tag field
    | .ok settings =>
      let t := s.setUnit ⟨unit.toNat, h⟩ settings
      t.answer 0x12 tag .accepted (unit :: settings.bytes ++ [t.pairByte])
  else s.outOfRange 0x12 tag 0

/-! ## The meaning -/

def execSetwatch (tag unit : Byte) (w : WatchSettings) (s : State) : Host.Outcome State Fault Refusal :=
  takeRequest (.setwatch tag unit w) (serveSetwatch tag unit w) s

end Sys2Proof.Machine
end

