-- ==== Sys2Proof/Machine/LinkCommands.lean ====
section
/-! DEFINITION. The two commands of the link itself: FRAME_ARRIVAL (R161) and LINK_CHECK (R162), and the handing of a good
frame's request to its owning block. -/

namespace Sys2Proof.Machine

/-! ## FRAME_ARRIVAL -/

/-- The bytes taken by the receiver, and READY after the arrivals (R161). -/
def frameArrivalEffect (bytes : List Byte) (s : State) : State := (s.receive bytes).driveReady

/-! ## LINK_CHECK -/

/-- A request served by its owning block (R162). An event of the part is no request and is served by none. -/
def serve (i : Instr) (s : State) : State :=
  match i with
  | .lodge tag board key cls routerTag => serveLodge tag board key cls routerTag s
  | .advance tag key approval => serveAdvance tag key approval s
  | .release tag key outcome => serveRelease tag key outcome s
  | .lookup tag key => serveLookup tag key s
  | .peek tag slot => servePeek tag slot s
  | .enrol tag board => serveEnrol tag board s
  | .reinstate tag board => serveReinstate tag board s
  | .retire tag board => serveRetire tag board s
  | .declare tag board => serveDeclare tag board s
  | .absolve tag board => serveAbsolve tag board s
  | .take tag board n => serveTake tag board n s
  | .purge tag board => servePurge tag board s
  | .report tag board count => serveReport tag board count s
  | .board tag slot => serveBoard tag slot s
  | .device tag part => serveDevice tag part s
  | .setgroupTimebase tag f => serveSetTimebase tag f s
  | .setgroupProfile tag cls f => serveSetProfile tag cls f s
  | .setgroupLatency tag f => serveSetLatency tag f s
  | .setgroupWeights tag f => serveSetWeights tag f s
  | .setgroupThresholds tag f => serveSetThresholds tag f s
  | .setgroupHeartbeat tag f => serveSetHeartbeat tag f s
  | .setgroupGuard tag f => serveSetGuard tag f s
  | .setgroupTable tag f => serveSetTable tag f s
  | .setgroupMasks tag f => serveSetMasks tag f s
  | .getgroup tag group => serveGetgroup tag group s
  | .setwatch tag unit settings => serveSetwatch tag unit settings s
  | .notice tag => serveNotice tag s
  | .test tag inject => serveTest tag inject s
  | .clear tag => serveClear tag s
  | .ident tag => serveIdent tag s
  | .frameArrival _ | .linkCheck | .pinReset | .tuStep | .passStart | .sweepVisit | .graceExpiry _ | .pulse _
  | .lostExpiry _ | .stallExpiry _ | .resetNReleased => s

/-- The head frame leaves the buffer, and READY follows. -/
def State.popFrame (s : State) : State := { s with buffer := s.buffer.tail }.driveReady

/-- LINK_CHECK's effect: the head frame is taken and checked; a refused one is answered, a good one is handed over in the
same step (log 2). With the buffer empty there is no frame to take. -/
def linkCheckEffect (s : State) : State :=
  match s.buffer with
  | [] => s
  | f :: _ =>
    match parseFrame f with
    | .refused o payload => s.popFrame.answer f.code f.tag o payload
    | .request i => serve i s.popFrame

/-! ## The meanings -/

def execFrameArrival (bytes : List Byte) (s : State) : Host.Outcome State Fault Refusal :=
  takeEvent (frameArrivalEffect bytes) s

def execLinkCheck (s : State) : Host.Outcome State Fault Refusal := takeEvent linkCheckEffect s

end Sys2Proof.Machine
end

