-- ==== Sys2Proof/Machine/Timers.lean ====
section
/-! DEFINITION. The timers the Board Table takes on its own: GRACE_EXPIRY (R82) and STALL_EXPIRY (R109). An expiry whose
timer is not armed, or whose time the clock has not reached, leaves the state as it is (logs 5, 6). An expiry that no command
has taken in its TU is taken by TU_STEP (log 7). -/

namespace Sys2Proof.Machine

/-- An optional timer holds an expiry the clock has reached (R46). -/
def State.ranOut (s : State) : Option Time → Bool
  | none => false
  | some e => past s.clock e

/-! ## GRACE_EXPIRY (R82) -/

/-- The board record after grace: LIVE, the grace end removed, the lost timer armed when the board was never heard, the
stall timer armed when it holds work (R82). -/
def Board.graced (x : Board) (lost stall : Time) : Board :=
  { x with
    state := .live, graceEnd := none
    lostExpiry := if x.heard then x.lostExpiry else some lost
    stallExpiry := if 0 < x.outstanding then some stall else none }

/-- Grace expires for board b, and the change is reported; neither count changes, so no notice is latched (R77, R82, R117). -/
def State.expireGrace (s : State) (b : Bd) : State :=
  (s.modifyBoard b fun x => x.graced (s.after s.hbMax) (s.after s.stallLimit)).reportState (s.board b).state .live

/-- GRACE_EXPIRY's effect. -/
def graceExpiryEffect (b : Bd) (s : State) : State :=
  if (s.board b).state = .warming ∧ s.ranOut (s.board b).graceEnd then s.expireGrace b else s

/-! ## STALL_EXPIRY (R109) -/

/-- The stall timer re-armed at now + STALL_LIMIT (R108). The re-arming stands before the charge, so that a verdict granted
by the charge leaves the timer disarmed (log 22). -/
def State.rearmStall (s : State) (b : Bd) : State :=
  s.modifyBoard b fun x => { x with stallExpiry := some (s.after s.stallLimit) }

/-- STALL_EXPIRY's effect: re-armed, and STALL charged unless the device is HALTED (R109). -/
def stallExpiryEffect (b : Bd) (s : State) : State :=
  if s.ranOut (s.board b).stallExpiry then
    if s.halted then s.rearmStall b else (s.rearmStall b).charge b .stall
  else s

/-! ## The meanings -/

def execGraceExpiry (b : Bd) (s : State) : Host.Outcome State Fault Refusal := takeEvent (graceExpiryEffect b) s

def execStallExpiry (b : Bd) (s : State) : Host.Outcome State Fault Refusal := takeEvent (stallExpiryEffect b) s

end Sys2Proof.Machine
end

