-- ==== Sys2Proof/Machine/HeartbeatEvents.lean ====
section
/-! DEFINITION. The Heartbeat Monitor: PULSE (R102 to R104) and LOST_EXPIRY (R106). -/

namespace Sys2Proof.Machine

/-! ## PULSE -/

/-- The record of a counted pulse: last pulse now, interval armed, heard, the lost timer at now + HB_MAX (R103, R104). -/
def State.countPulse (s : State) (b : Bd) : State :=
  (s.modifyLine b fun _ => ⟨some s.clock, true⟩).modifyBoard b fun x =>
    { x with heard := true, lostExpiry := some (s.after s.hbMax) }

/-- The pulse's interval is armed and below HB_MIN (R104 step 1). -/
def State.races (s : State) (b : Bd) : Bool :=
  (s.line b).intervalArmed && match (s.line b).lastPulse with
    | none => false
    | some p => decide ((s.clock - p).toNat < s.hbMin)

/-- PULSE's effect: counted in WARMING, LIVE and DOUBTFUL; a racing interval is charged in LIVE and DOUBTFUL. The record of
the pulse stands before the charge, so that a verdict granted by the charge leaves the lost timer disarmed (log 22). -/
def pulseEffect (b : Bd) (s : State) : State :=
  match (s.board b).state with
  | .warming => s.countPulse b
  | .live | .doubtful => if s.races b then (s.countPulse b).charge b .racing else s.countPulse b
  | .absent | .silent | .drained => s

/-! ## LOST_EXPIRY -/

/-- Interval armed becomes no, and the lost timer is re-armed at now + HB_MAX (R106); before the charge (log 22). -/
def State.rearmLost (s : State) (b : Bd) : State :=
  (s.modifyLine b fun l => { l with intervalArmed := false }).modifyBoard b fun x =>
    { x with lostExpiry := some (s.after s.hbMax) }

/-- LOST_EXPIRY's effect: LOST is charged in LIVE and DOUBTFUL and dropped in WARMING (R94, R106). -/
def lostExpiryEffect (b : Bd) (s : State) : State :=
  if s.ranOut (s.board b).lostExpiry then (s.rearmLost b).charge b .lost else s

/-! ## The meanings -/

def execPulse (b : Bd) (s : State) : Host.Outcome State Fault Refusal := takeEvent (pulseEffect b) s

def execLostExpiry (b : Bd) (s : State) : Host.Outcome State Fault Refusal := takeEvent (lostExpiryEffect b) s

end Sys2Proof.Machine
end

