-- ==== Sys2Proof/Machine/TimeEvents.lean ====
section
/-! DEFINITION. The custody clock's step, and the events of the Aging Sweep: PASS_START and SWEEP_VISIT (chapter 3), with the
memory phase and the end of a self-test (R158). An event that is not due leaves the state as it is (log 5). TU_STEP itself,
which ends a TU with what is due in it, stands in TuStep.lean. -/

namespace Sys2Proof.Machine

/-! ## The TU and the custody clock (R44, R45) -/

/-- The reference clock periods of a prescale code (section 3.1). -/
def prescalePeriods : Nat → Nat
  | 0 => 12500 | 1 => 25000 | 2 => 50000 | _ => 100000

/-- The reference clock periods of one TU: PRE × (DIV + 1), with the effective settings (R44). -/
def State.tuPeriods (s : State) : Nat := prescalePeriods s.prescale * (s.divider + 1)

/-- The custody clock rises by one and wraps (R45). -/
def State.tick (s : State) : State := { s with clock := s.clock + 1 }

/-! ## PASS_START (R50) -/

/-- Slot visits per TU of a VPT code (R49). -/
def visitRate (code : Nat) : Nat := 64 * 2 ^ code

/-- The pass period P of a VPT code, 8192 / VPT (R49). -/
def passPeriod (code : Nat) : Nat := Config.recordSlots / visitRate code

/-- Step 1: the TIMEBASE group taken up, PRE and DIV above 3 as 3, VPT above 5 as 5 (R48). -/
def State.takeUpTimebase (s : State) : State :=
  if s.timebasePending then
    { s with
      prescale := min 3 s.groups.timebase.fields.pre.toNat
      divider := min 3 s.groups.timebase.fields.div.toNat
      configuredVpt := min 5 s.groups.timebase.fields.vpt.toNat
      timebasePending := false }
  else s

/-- The least AUTH_FLOOR among the valid profiles; none when no profile is valid (R51). -/
def Groups.leastFloor (g : Groups) : Option Nat :=
  ((g.profiles.toList.filter (·.valid)).map fun p => p.fields.authFloor.toNat).min?

/-- The effective visit rate code for a configured code and F_min: the configured one when its period is within the limit,
else the slowest rate that fits, else code 5 (R51). -/
def settledVpt (configured : Nat) : Option Nat → Nat
  | none => configured
  | some fMin =>
    if passPeriod configured ≤ fMin / 2 then configured
    else ([0, 1, 2, 3, 4].find? fun c => decide (passPeriod c ≤ fMin / 2)).getD 5

/-- Step 3: the effective visit rate and the clamped flag (R51). -/
def State.settleRate (s : State) : State :=
  let e := settledVpt s.configuredVpt s.groups.leastFloor
  { s with effectiveVpt := e, clamped := decide (e ≠ s.configuredVpt) }

/-- Step 4: a test waiting for a pass gets this one as its memory phase (R50, R158). A test accepted between a custody reset
and the pass start that follows it is waiting then, and gets that pass (DESIGN CHOICE, log 38). -/
def State.beginMemoryPhase (s : State) : State :=
  if s.selfTest.phase = .waiting then { s with selfTest := { s.selfTest with phase := .memory } } else s

/-- The four steps of a pass start, and the pass from slot 0 (R50). -/
def State.startPass (s : State) : State :=
  let t := s.takeUpTimebase.verifyGroups.settleRate.beginMemoryPhase
  { t with sweepPosition := 0, pass := .running t.clock }

/-- A pass start is due: the sweep is RUNNING and the clock stands at the awaited value (R49, R57, R59). -/
def State.passStartDue (s : State) : Bool :=
  s.sweepRunning && match s.pass with
    | .awaiting due => decide (s.clock = due)
    | .running _ => false

/-- PASS_START's effect. -/
def passStartEffect (s : State) : State := if s.passStartDue then s.startPass else s

/-! ## SWEEP_VISIT (R52 to R54) -/

/-- The clock value in which the next visit falls, for a pass started at T: T + floor(s / VPT) (R49). -/
def State.visitTime (s : State) (began : Time) : Time :=
  began + BitVec.ofNat 32 (s.sweepPosition / visitRate s.effectiveVpt)

/-- A visit is due: the sweep is RUNNING, a pass is in progress and now is the slot's TU (R49). -/
def State.visitDue (s : State) : Bool :=
  s.sweepRunning && match s.pass with
    | .awaiting _ => false
    | .running began => decide (s.clock = s.visitTime began)

/-- The payload a mark writes: overdue time, excused, and the late mark of the stage (R53). -/
def Payload.marked (p : Payload) (st : Stage) (now : Time) (excused : Bool) : Payload :=
  match st with
  | .lodged => { p with overdue := some ⟨now, excused⟩, lateAuth := true }
  | .decided => { p with overdue := some ⟨now, excused⟩, lateSettle := true }

/-- The evidence of a marked stage (R53). -/
def Stage.evidence : Stage → Evidence
  | .lodged => .authOver
  | .decided => .settleOver

/-- A visit marks the record of slot n overdue, the OVERDUE event is offered, and the board is charged; in WARMING the
charge is dropped (R53, R94). -/
def State.markOverdue (s : State) (n : Nat) (st : Stage) (b : Bd) (p : Payload) : State :=
  let q := p.marked st s.clock (decide ((s.board b).state = .warming))
  ((s.writeRecord n st b q).offer .overdue n b q.key q.watchSet).charge b st.evidence

/-- A visit to a LODGED or DECIDED slot (R52), with the structure check of R152. A held record's visit, which R52 ends after
the parity check, makes the index test too (DESIGN CHOICE, log 37). -/
def State.visitRecord (s : State) (n : Nat) (st : Stage) (b : Bd) (p : Payload) (parity : Bool) : State :=
  if !readsClean p parity then s.damageRecord n b p parity
  else if s.lookupKey p.key ≠ some n then s.enterHalted .keyIndex
  else if (s.board b).state.isActive && p.overdue.isNone && past s.clock p.deadline then s.markOverdue n st b p
  else s

/-- A FREE slot in the memory phase: both patterns are written and read back; the readback is a free value (R8, R158,
log 14). -/
def State.testFreeSlot (s : State) (n : Nat) : State :=
  let t := { s with freeValues := s.freeValues + 1 }
  if Config.patternReadsBack s.freeValues n false && Config.patternReadsBack s.freeValues n true then t
  else { t.damageFree n with selfTest := { s.selfTest with memoryFailures := s.selfTest.memoryFailures + 1 } }

/-- What a visit does to slot n (R52, R54). -/
def State.visitSlot (s : State) (n : Nat) : State :=
  match s.slot n with
  | some (.record st b p parity) => s.visitRecord n st b p parity
  | some (.damaged _ _ _) | some .unattributed => s
  | none => if s.selfTest.phase = .memory then s.testFreeSlot n else s

/-- The end of a self-test: result and causes, IDLE, and TEST_DONE (R158). -/
def State.endTest (s : State) : State :=
  let causes := { s.selfTest.causes with memory := decide (0 < s.selfTest.memoryFailures) }
  let result := if causes = .empty then .pass else .fail
  { s with selfTest := { s.selfTest with running := false, phase := .none, result := result, causes := causes } }.latchTestDone
    result causes

/-- After a visit to slot 8191 the next pass start is awaited at T + P, and a memory phase that the visit did not stop ends
the test (R49, R50, R158; log 25). -/
def State.endPass (s : State) (began : Time) : State :=
  let t := { s with
    sweepPosition := 0, pass := .awaiting (began + BitVec.ofNat 32 (passPeriod s.effectiveVpt)) }
  if s.selfTest.phase = .memory ∧ s.halted = false then t.endTest else t

/-- A visit taken: the slot, then the next position, or the pass's end (R49). -/
def State.sweepVisit (s : State) (began : Time) : State :=
  let t := s.visitSlot s.sweepPosition
  if s.sweepPosition + 1 < Config.recordSlots then { t with sweepPosition := s.sweepPosition + 1 } else t.endPass began

/-- SWEEP_VISIT's effect. -/
def sweepVisitEffect (s : State) : State :=
  match s.pass with
  | .awaiting _ => s
  | .running began => if s.visitDue then s.sweepVisit began else s

/-! ## The meanings -/

def execPassStart (s : State) : Host.Outcome State Fault Refusal := takeEvent passStartEffect s

def execSweepVisit (s : State) : Host.Outcome State Fault Refusal := takeEvent sweepVisitEffect s

end Sys2Proof.Machine
end

