-- ==== Sys2Proof/Machine/TuStep.lean ====
section
/-! DEFINITION. TU_STEP: the end of a TU (R44, R45). R46 and R49 fix the TU of every visit, pass start and timer. An event of
the TU that no command of the queue has taken is taken as the TU ends, before the clock steps: first the sweep's, then each
board's timers (DESIGN CHOICE, log 7), so that no event of the part is ever late. -/

namespace Sys2Proof.Machine

/-- The sweep's events of this TU, one after another: a pass start that is due, else the visit that is due, until none is
(R49). The first argument bounds their number; a TU holds at most a pass start and 2048 visits. -/
def State.sweepOut : Nat → State → State
  | 0, s => s
  | k + 1, s =>
    if s.passStartDue then State.sweepOut k (passStartEffect s)
    else if s.visitDue then State.sweepOut k (sweepVisitEffect s)
    else s

/-- The timers of board b that have run out do their work: grace, lost, stall (R46, R82, R106, R109). -/
def State.expireTimers (s : State) (b : Bd) : State :=
  stallExpiryEffect b (lostExpiryEffect b (graceExpiryEffect b s))

/-- What is due in this TU and not taken yet: the sweep's events, then the timers of every board, ascending (log 7). -/
def State.endTu (s : State) : State :=
  allBoards.foldl State.expireTimers (State.sweepOut (Config.recordSlots + 1) s)

/-- TU_STEP's effect: the TU ends and the clock steps (R44, R45, R46, R49). -/
def tuStepEffect (s : State) : State := s.endTu.tick

/-! ## The meaning -/

def execTuStep (s : State) : Host.Outcome State Fault Refusal := takeEvent tuStepEffect s

end Sys2Proof.Machine
end

