-- ==== Sys2Proof/Machine/Dispatch.lean ====
section
/-! DEFINITION. The meaning of each command: one direct call per constructor of Instr. -/

namespace Sys2Proof.Machine

def exec (i : Instr) (s : State) : Host.Outcome State Fault Refusal :=
  match i with
  | .frameArrival bytes => Sys2Proof.Machine.execFrameArrival bytes s
  | .linkCheck => Sys2Proof.Machine.execLinkCheck s
  | .lodge tag board key cls routerTag => Sys2Proof.Machine.execLodge tag board key cls routerTag s
  | .advance tag key approval => Sys2Proof.Machine.execAdvance tag key approval s
  | .release tag key outcome => Sys2Proof.Machine.execRelease tag key outcome s
  | .lookup tag key => Sys2Proof.Machine.execLookup tag key s
  | .peek tag slot => Sys2Proof.Machine.execPeek tag slot s
  | .enrol tag board => Sys2Proof.Machine.execEnrol tag board s
  | .reinstate tag board => Sys2Proof.Machine.execReinstate tag board s
  | .retire tag board => Sys2Proof.Machine.execRetire tag board s
  | .declare tag board => Sys2Proof.Machine.execDeclare tag board s
  | .absolve tag board => Sys2Proof.Machine.execAbsolve tag board s
  | .take tag board n => Sys2Proof.Machine.execTake tag board n s
  | .purge tag board => Sys2Proof.Machine.execPurge tag board s
  | .report tag board count => Sys2Proof.Machine.execReport tag board count s
  | .board tag slot => Sys2Proof.Machine.execBoard tag slot s
  | .device tag part => Sys2Proof.Machine.execDevice tag part s
  | .setgroupTimebase tag fields => Sys2Proof.Machine.execSetgroupTimebase tag fields s
  | .setgroupProfile tag cls fields => Sys2Proof.Machine.execSetgroupProfile tag cls fields s
  | .setgroupLatency tag fields => Sys2Proof.Machine.execSetgroupLatency tag fields s
  | .setgroupWeights tag fields => Sys2Proof.Machine.execSetgroupWeights tag fields s
  | .setgroupThresholds tag fields => Sys2Proof.Machine.execSetgroupThresholds tag fields s
  | .setgroupHeartbeat tag fields => Sys2Proof.Machine.execSetgroupHeartbeat tag fields s
  | .setgroupGuard tag fields => Sys2Proof.Machine.execSetgroupGuard tag fields s
  | .setgroupTable tag fields => Sys2Proof.Machine.execSetgroupTable tag fields s
  | .setgroupMasks tag fields => Sys2Proof.Machine.execSetgroupMasks tag fields s
  | .getgroup tag group => Sys2Proof.Machine.execGetgroup tag group s
  | .setwatch tag unit settings => Sys2Proof.Machine.execSetwatch tag unit settings s
  | .notice tag => Sys2Proof.Machine.execNotice tag s
  | .test tag inject => Sys2Proof.Machine.execTest tag inject s
  | .clear tag => Sys2Proof.Machine.execClear tag s
  | .ident tag => Sys2Proof.Machine.execIdent tag s
  | .pinReset => Sys2Proof.Machine.execPinReset s
  | .tuStep => Sys2Proof.Machine.execTuStep s
  | .passStart => Sys2Proof.Machine.execPassStart s
  | .sweepVisit => Sys2Proof.Machine.execSweepVisit s
  | .graceExpiry board => Sys2Proof.Machine.execGraceExpiry board s
  | .pulse line => Sys2Proof.Machine.execPulse line s
  | .lostExpiry board => Sys2Proof.Machine.execLostExpiry board s
  | .stallExpiry board => Sys2Proof.Machine.execStallExpiry board s
  | .resetNReleased => Sys2Proof.Machine.execResetNReleased s

end Sys2Proof.Machine
end

