-- ==== Sys2Proof/Safety.lean ====
section
/-! DEFINITION. What a sound state of the KV-418 is: the invariants that every step keeps, block by block, and the frame of
the Verdict Unit's work. -/

namespace Sys2Proof.Machine

/-! ## Scores (R81, R96, R99, R100) -/

/-- The ranges and combinations a THRESHOLDS SETGROUP accepts (R100). -/
def ThresholdsLegal (f : Thresholds) : Prop :=
  2 ≤ f.alert.toNat ∧ f.alert.toNat ≤ 4094 ∧ 1 ≤ f.hysteresis.toNat ∧ f.hysteresis.toNat < f.alert.toNat
    ∧ f.alert.toNat < f.verdict.toNat ∧ f.verdict.toNat ≤ 4095 ∧ 1 ≤ f.creditShift.toNat ∧ f.creditShift.toNat ≤ 8

/-- A board's score in 0..4095; 0 in WARMING, below A in LIVE, at least A - H in DOUBTFUL (R81, R96, R99). -/
def Board.ScoreWf (x : Board) (a h : Nat) : Prop :=
  x.score ≤ 4095 ∧ (x.state = .warming → x.score = 0) ∧ (x.state = .live → x.score < a)
    ∧ (x.state = .doubtful → a ≤ x.score + h)

/-- Every board's state and score agree under the effective thresholds, which are legal (R99). -/
def State.ScoreWf (s : State) : Prop :=
  ThresholdsLegal s.effThresholds ∧ ∀ b, (s.board b).ScoreWf s.levelA s.levelH

/-! ## Widths (R64, R75) -/

/-- Every board's latency estimate lies in 0..1,048,560 and its charges count in 0..65535 (R64, R68, R75). -/
def State.EstimateWf (s : State) : Prop := ∀ b, (s.board b).latency ≤ 1048560 ∧ (s.board b).charges ≤ 65535

/-! ## The Verdict Unit (R117, R118, R121) -/

/-- The number of boards whose state has a property. -/
def State.countBoards (s : State) (p : BoardState → Bool) : Nat := (allBoards.filter fun b => p (s.board b).state).length

/-- The three counts equal the boards in their states, the common-cause state is what R118 gives, the down count is within
MAX_DOWN, the pending set holds exactly the DOUBTFUL boards whose pending flag is yes, and it is empty unless a condition of
R119 fails (R117, R118, R121). -/
def State.VerdictWf (s : State) : Prop :=
  s.active = s.countBoards BoardState.isActive ∧ s.doubtful = s.countBoards BoardState.isDoubtful
    ∧ s.down = s.countBoards BoardState.isDown ∧ s.down ≤ s.maxDown
    ∧ s.commonCause = commonHolds s.doubtful s.active s.ccPct
    ∧ (∀ b, (s.cause b).isSome = (s.board b).pending)
    ∧ (∀ b, (s.board b).pending = true → (s.board b).state = .doubtful)
    ∧ (s.pendingBoards ≠ [] → s.withholdCause ≠ none)

/-! ## The timers (R75, section 5.2, R102, R105, R108, R124) -/

/-- Which timers a board in each state has armed: a grace end in WARMING alone; the stall timer exactly while work is
outstanding in LIVE or DOUBTFUL; the lost timer never in ABSENT, SILENT or DRAINED, always in LIVE and DOUBTFUL, and in
WARMING once the board is heard; a verdict time in SILENT and DRAINED alone; an interval measured only after a counted
pulse of an active board. -/
def Board.TimersWf (x : Board) (l : Line) : Prop :=
  x.graceEnd.isSome = decide (x.state = .warming)
    ∧ x.stallExpiry.isSome = (decide (x.state = .live ∨ x.state = .doubtful) && decide (0 < x.outstanding))
    ∧ x.verdictTime.isSome = x.state.isDown
    ∧ (x.lostExpiry.isSome = true → x.state.isActive = true)
    ∧ (x.state = .live ∨ x.state = .doubtful → x.lostExpiry.isSome = true)
    ∧ (x.state = .warming ∧ x.heard = true → x.lostExpiry.isSome = true)
    ∧ (l.intervalArmed = true → l.lastPulse.isSome = true ∧ x.state.isActive = true)

def State.TimersWf (s : State) : Prop := ∀ b, (s.board b).TimersWf (s.line b)

/-! ## Nothing of the part is late (R46, R49) -/

/-- The TU of the sweep's next event: the awaited pass start, or the next visit of the pass in progress (R49). -/
def State.nextSweepTime (s : State) : Time :=
  match s.pass with
  | .awaiting due => due
  | .running began => began + BitVec.ofNat 32 (s.sweepPosition / (64 * 2 ^ s.effectiveVpt))

/-- Every armed timer's expiry, and while the sweep is RUNNING the TU of its next event, lies at or after now: now, or one of
the 2^31 - 1 TU that follow (R46, R49). -/
def State.OnTimeWf (s : State) : Prop :=
  (∀ b, (s.board b).graceEnd.all (past · s.clock) = true ∧ (s.board b).lostExpiry.all (past · s.clock) = true
      ∧ (s.board b).stallExpiry.all (past · s.clock) = true)
    ∧ (s.sweepRunning = true → past s.nextSweepTime s.clock = true)

/-! ## The Custody Table (R1, R5, R7, R9, R10, R17) -/

/-- The stores are canonical and hold slots 0..8191 only. -/
def State.StoresWf (s : State) : Prop :=
  mapWf s.slots = true ∧ mapWf s.index = true ∧ ∀ n, (s.slot n).isSome = true → n < Config.recordSlots

/-- Slot n is LODGED or DECIDED. -/
def State.holdsRecord (s : State) (n : Nat) : Bool :=
  match s.slot n with
  | some (.record _ _ _ _) => true
  | some (.damaged _ _ _) | some .unattributed => false
  | none => false

/-- The key index holds exactly one entry for each LODGED or DECIDED record, and no other (R5). -/
def State.IndexWf (s : State) : Prop :=
  (∀ n, s.holdsRecord n = true ↔ ∃ k, mapFind k s.index = some n)
    ∧ ∀ j k n, mapFind j s.index = some n → mapFind k s.index = some n → j = k

/-- The free list holds each FREE slot once (R7); the unattributed set holds the DAMAGED slots without a link, ascending
(R10); occupancy counts the slots that are not FREE (R17). -/
def State.FreeWf (s : State) : Prop :=
  s.free.Nodup ∧ (∀ n, n ∈ s.free ↔ n < Config.recordSlots ∧ s.slot n = none)
    ∧ s.unattributed.Pairwise (· < ·) ∧ (∀ n, n ∈ s.unattributed ↔ s.slot n = some .unattributed)
    ∧ s.occupancy + s.free.length = Config.recordSlots

/-- Each custody list holds its board's slots once, with the counts reported to the Board Table; it is empty in ABSENT and
DRAINED and not empty in SILENT (R9, R11, R123, R126). -/
def State.ListsWf (s : State) : Prop :=
  ∀ b, (s.list b).Nodup ∧ (∀ n, n ∈ s.list b ↔ s.linkedTo b n = true)
    ∧ (s.board b).outstanding = (s.list b).length
    ∧ (s.board b).damaged = ((s.list b).filter s.isDamagedSlot).length
    ∧ ((s.board b).state = .absent ∨ (s.board b).state = .drained → s.list b = [])
    ∧ ((s.board b).state = .silent → s.list b ≠ [])

/-- The Custody Table's structures agree (R5, R7, R9, R10, R17). -/
def State.TableWf (s : State) : Prop := s.StoresWf ∧ s.IndexWf ∧ s.FreeWf ∧ s.ListsWf

/-- Every payload reads clean, and the key index gives its slot for its key (R5, R151). -/
def State.CleanWf (s : State) : Prop :=
  ∀ n st b p q, s.slot n = some (.record st b p q) → readsClean p q = true ∧ s.lookupKey p.key = some n

/-! ## The bits of a payload (R2, R151) -/

/-- The lowest w bits of a number. -/
def wordBits (w x : Nat) : List Bool := (List.range w).map x.testBit

/-- An optional word of w bits: its presence bit and its value, zeros when absent. -/
def optBits (w : Nat) : Option Nat → List Bool
  | none => List.replicate (w + 1) false
  | some x => true :: wordBits w x

/-- The bits of a payload as the model stores it, field by field (R2); the same number for every payload. -/
def payloadBits (p : Payload) : List Bool :=
  wordBits 24 p.key.terminal.toNat ++ wordBits 24 p.key.sequence.toNat ++ wordBits 2 p.cls.val
    ++ wordBits 32 p.lodgeTime.toNat ++ wordBits 32 p.deadline.toNat
    ++ optBits 32 (p.decision.map (·.toNat)) ++ optBits 32 (p.routerTag.map (·.toNat))
    ++ [p.lateAuth, p.lateSettle] ++ optBits 32 (p.overdue.map (·.time.toNat))
    ++ [(p.overdue.map (·.excused)).getD false] ++ wordBits 4 p.watchSet.toNat

/-- The number of bits in which two payloads differ. -/
def bitsChanged (p q : Payload) : Nat := ((payloadBits p).zip (payloadBits q)).countP fun x => x.1 != x.2

/-! ## The sweep (R47 to R51, R57, R153) -/

/-- The effective settings in range, the position a slot number, and the sweep STOPPED exactly while HALTED. -/
def State.SweepWf (s : State) : Prop :=
  s.prescale ≤ 3 ∧ s.divider ≤ 3 ∧ s.configuredVpt ≤ 5 ∧ s.effectiveVpt ≤ 5 ∧ s.sweepPosition < Config.recordSlots
    ∧ s.sweepRunning = !s.halted

/-! ## The link (R160, R161) -/

/-- A buffered frame: over-long without payload, or with the payload its length byte gives. -/
def Frame.Wf (f : Frame) : Prop := if f.overLong then f.payload = [] else f.payload.length = f.len.toNat

/-- The receiver in BODY still awaits a byte of a frame of at most 48 payload bytes. -/
def Receiver.Wf : Receiver → Prop
  | .body _ _ len got => len.toNat ≤ 48 ∧ got.length < len.toNat + 2
  | .hunting | .awaitCode | .awaitTag _ | .awaitLength _ _ => True

/-- At most 16 whole frames are buffered, and a part in pin reset has none (R161). -/
def State.LinkWf (s : State) : Prop :=
  s.rx.Wf ∧ (∀ f ∈ s.buffer, f.Wf) ∧ s.buffer.length ≤ Config.bufferFrames ∧ (s.resetHeld = true → s.buffer = [])

/-! ## The output pins (R146, R147, R161) -/

/-- ATTN_N and FAULT_N stand as the latches, conditions and masks say, and READY is high while the buffer holds 11 frames or
fewer and RESET_N is not held. -/
def State.PinsWf (s : State) : Prop :=
  s.attnN = !s.attnAsserted ∧ s.faultN = !s.faultAsserted
    ∧ s.ready = (!s.resetHeld && decide (s.buffer.length < Config.readyLimit))

/-! ## The self-test (R76, R156 to R159) -/

/-- Between commands the test record stands in ABSENT with S 0 and pending no, and a test runs exactly while it has a phase,
with no result yet. -/
def State.TestWf (s : State) : Prop :=
  s.testRecord.state = .absent ∧ s.testRecord.score = 0 ∧ s.testRecord.pending = false
    ∧ s.selfTest.running = decide (s.selfTest.phase ≠ .none)
    ∧ (s.selfTest.running = true → s.selfTest.result = .none)

/-! ## What the Verdict Unit's work may change -/

/-- t differs from s at most in what charges, credits, grants and reconsiderations work on: the board records and lines, the
slots and index (damage found by a grant's walk), the Verdict Unit, the latches, and the entry to HALTED. -/
def VerdictFrame (s t : State) : Prop :=
  { t with
    boards := s.boards, lines := s.lines, slots := s.slots, index := s.index
    active := s.active, doubtful := s.doubtful, down := s.down, commonCause := s.commonCause, withheld := s.withheld
    latches := s.latches, halted := s.halted, sweepRunning := s.sweepRunning } = s

/-- What a reconsideration may change: nothing but pending boards, and of the rest only what VerdictFrame names (R121,
R122). -/
def Reconsidered (s t : State) : Prop :=
  VerdictFrame s t ∧ ∀ b, s.cause b = none → t.board b = s.board b ∧ t.line b = s.line b ∧ t.cause b = none

/-! ## How statements speak of a command's outcome -/

/-- The state after a visit in a pass that began so, when the slot's own outcome is t: the next position; or, after slot 8191,
the position 0 and the next pass start awaited a period after the last (R49), and a memory phase that has not been stopped
ends the test with TEST_DONE: MEMORY is added to the causes recorded before when a slot failed, and the result is PASS exactly
when no cause is recorded (R50, R158). -/
def State.afterVisit (began : Time) (t : State) : State :=
  if t.sweepPosition < 8191 then { t with sweepPosition := t.sweepPosition + 1 }
  else
    let ended : State :=
      { t with sweepPosition := 0, pass := .awaiting (began + BitVec.ofNat 32 (8192 / (64 * 2 ^ t.effectiveVpt))) }
    let causes : TestCauses := { t.selfTest.causes with memory := decide (0 < t.selfTest.memoryFailures) }
    let result : TestResult := if causes = ⟨false, false, false, false⟩ then .pass else .fail
    if t.selfTest.phase = .memory ∧ t.halted = false then
      { ended with
        selfTest := { t.selfTest with running := false, phase := .none, result := result, causes := causes }
        latches := { t.latches with testDone := some (match t.latches.testDone with
          | none => ⟨t.clock, result, causes⟩
          | some l => ⟨l.time, result, causes⟩) } }
    else ended

/-- The state after request i is answered so and nothing else is done: its frame is taken off the buffer (READY following),
the response is formed, and ATTN_N and FAULT_N stand as the latches and conditions say. -/
def answered (i : Instr) (s : State) (code tag : Byte) (o : OutcomeCode) (payload : List Byte) : State :=
  ((s.takeOff i).answer code tag o payload).driveLines

/-- t answers request i in state s so: one more response, the frame taken off the buffer, the lines driven. -/
def Answers (i : Instr) (s t : State) (code tag : Byte) (o : OutcomeCode) (payload : List Byte) : Prop :=
  t.tx = s.tx ++ [⟨code, tag, o, payload⟩] ∧ t.buffer = (s.takeOff i).buffer ∧ t.ready = (s.takeOff i).ready
    ∧ t.attnN = !t.attnAsserted ∧ t.faultN = !t.faultAsserted

/-- t with the link's and the pins' fields of s, which Answers speaks of. -/
def State.withLinkOf (t s : State) : State :=
  { t with tx := s.tx, buffer := s.buffer, ready := s.ready, attnN := s.attnN, faultN := s.faultN }

/-- The payload lengths R163 gives a request code, SETGROUP apart (its lengths follow its group, R162, R169); none for
SETGROUP and for a code outside 01h..16h. -/
def requestLengths : Nat → Option (List Nat)
  | 0x01 => some [8, 12] | 0x02 => some [10] | 0x03 => some [7] | 0x04 => some [6] | 0x05 => some [2] | 0x06 => some [1]
  | 0x07 => some [1] | 0x08 => some [1] | 0x09 => some [1] | 0x0A => some [1] | 0x0B => some [2] | 0x0C => some [1]
  | 0x0D => some [3] | 0x0E => some [1] | 0x0F => some [1] | 0x11 => some [1] | 0x12 => some [18] | 0x13 => some [0]
  | 0x14 => some [1] | 0x15 => some [0] | 0x16 => some [0] | _ => none

/-- The entry TAKE returns for slot n: the record as it stands when it reads clean, DAMAGED otherwise (R4, R127). -/
def State.takenEntry (s : State) (n : Nat) : List Byte :=
  match s.slot n with
  | some (.record st b p parity) =>
    if readsClean p parity then recordEntry n (some (.record st b p parity)) true
    else recordEntry n (some (.damaged b p parity)) true
  | some (.damaged b p parity) => recordEntry n (some (.damaged b p parity)) true
  | some .unattributed => recordEntry n (some .unattributed) true
  | none => []

/-- The board states a LODGE, a REPORT or a DECLARE is taken in. -/
def InService (st : BoardState) : Prop := st = .warming ∨ st = .live ∨ st = .doubtful

/-- The board states in which evidence is charged and progress re-arms the stall timer. -/
def Chargeable (st : BoardState) : Prop := st = .live ∨ st = .doubtful

end Sys2Proof.Machine
end

