-- ==== Sys2Proof/Certificates/Slice0/Obligations.lean ====
section
/-! DEFINITION. The statements for the provers, from the numbered rules of spec/. A command's statement gives the whole next
state: the state before with every field the command changes written out, so that its frame is said with it. answered,
Answers and withLinkOf (Safety.lean) speak of the frame taken off the buffer, the response and the driven lines, which every
request shares. -/

open Sys2Proof Sys2Proof.Machine

/-! ## The queue, the link and the reset pin -/

/-- One step is the front command on the state with the queue's rest; on an empty queue the block idles (the model's choice,
log 4). -/
def Obligations.StepTakesFrontCommand : Prop :=
  (∀ (c : Instr) (rest : List Instr) (s : State), s.pending = c :: rest → step s = exec c { s with pending := rest })
    ∧ ∀ s : State, s.pending = [] → step s = .next s

/-- While RESET_N is held nothing but the pin acts (the model's reading, log 8); its release asserts READY and makes the
first pass start due (R58, R161). That RESET_N_RELEASED with RESET_N high already changes nothing is the model's choice
(log 5). -/
def Obligations.ResetPinReleased : Prop :=
  (∀ s : State, s.resetHeld = true →
    exec .resetNReleased s = .next { s with resetHeld := false, ready := true, rx := .hunting, pass := .awaiting s.clock })
    ∧ (∀ s : State, s.resetHeld = false → exec .resetNReleased s = .next s)
    ∧ ∀ (i : Instr) (s : State), s.resetHeld = true → i ≠ .pinReset → i ≠ .resetNReleased → exec i s = .next s

/-- R161: a frame sent while the receiver is HUNTING joins the buffer with its last CRC byte, or is discarded with LINK
latched when the buffer holds 16; an over-long one arrives at its length byte, and is discarded in the same way when the buffer
holds 16; other bytes are ignored while HUNTING. That one command carries a run of line bytes is the model's choice (log 3). -/
def Obligations.FramesArrive : Prop :=
  (∀ (s : State) (f : Frame), s.resetHeld = false → s.rx = .hunting → f.len.toNat ≤ 48 → f.payload.length = f.len.toNat →
    (s.buffer.length < 16 →
      exec (.frameArrival f.bytes) s =
        .next { s with buffer := s.buffer ++ [f], ready := decide (s.buffer.length + 1 ≤ 11) }.driveLines)
    ∧ (16 ≤ s.buffer.length →
      exec (.frameArrival f.bytes) s =
        .next { s with
          ready := false
          latches := { s.latches with link := some (match s.latches.link with
            | none => ⟨s.clock, 1⟩
            | some k => { k with count := min 255 (k.count + 1) }) } }.driveLines))
  ∧ (∀ (s : State) (code tag len : Byte), s.resetHeld = false → s.rx = .hunting → 48 < len.toNat →
    (s.buffer.length < 16 →
      exec (.frameArrival [0xA5, code, tag, len]) s =
        .next { s with
          buffer := s.buffer ++ [(⟨code, tag, len, [], 0⟩ : Frame)], ready := decide (s.buffer.length + 1 ≤ 11) }.driveLines)
    ∧ (16 ≤ s.buffer.length →
      exec (.frameArrival [0xA5, code, tag, len]) s =
        .next { s with
          ready := false
          latches := { s.latches with link := some (match s.latches.link with
            | none => ⟨s.clock, 1⟩
            | some k => { k with count := min 255 (k.count + 1) }) } }.driveLines))
  ∧ ∀ (s : State) (bytes : List Byte), s.resetHeld = false → s.rx = .hunting → (∀ b ∈ bytes, b ≠ 0xA5) →
    exec (.frameArrival bytes) s = .next { s with ready := decide (s.buffer.length ≤ 11) }.driveLines

/-- R162, R169: the head frame is answered FRAME_CHECK, BAD_CODE or BAD_LENGTH, with its code and tag as received, and nothing
else changes but that it leaves the buffer. A SETGROUP frame with the length 0 is BAD_LENGTH; with a group number outside
0..11 it is OUT_OF_RANGE with index 255; with a length that is not 1 + its group's length it is BAD_LENGTH. -/
def Obligations.LinkCheckRefuses : Prop :=
  ∀ (s : State) (f : Frame) (rest : List Frame), s.resetHeld = false → s.buffer = f :: rest →
    (f.overLong = true ∨ crc f.covered ≠ f.crc →
      exec .linkCheck s = .next (s.popFrame.answer f.code f.tag .frameCheck []).driveLines)
    ∧ (f.overLong = false → crc f.covered = f.crc → f.code ≠ 0x10 → requestLengths f.code.toNat = none →
      exec .linkCheck s = .next (s.popFrame.answer f.code f.tag .badCode []).driveLines)
    ∧ (∀ ns, f.overLong = false → crc f.covered = f.crc → requestLengths f.code.toNat = some ns → f.payload.length ∉ ns →
      exec .linkCheck s = .next (s.popFrame.answer f.code f.tag .badLength []).driveLines)
    ∧ (f.overLong = false → crc f.covered = f.crc → f.code = 0x10 → f.payload = [] →
      exec .linkCheck s = .next (s.popFrame.answer f.code f.tag .badLength []).driveLines)
    ∧ ∀ (group : Byte) (fields : List Byte), f.overLong = false → crc f.covered = f.crc → f.code = 0x10 →
      f.payload = group :: fields →
      (12 ≤ group.toNat → exec .linkCheck s = .next (s.popFrame.answer 0x10 f.tag .outOfRange [255]).driveLines)
      ∧ ∀ n, [3, 8, 8, 8, 8, 3, 12, 7, 9, 4, 4, 3][group.toNat]? = some n → fields.length ≠ n →
        exec .linkCheck s = .next (s.popFrame.answer 0x10 f.tag .badLength []).driveLines

/-- R162: a head frame that passes is handed over: LINK_CHECK then does what the request it stands for does, in the same
step (the model's choice, log 2). The frame a router sends for a request passes and stands for that request.
A request whose frame stands at the head takes it off, READY following; a request whose frame does not stand there
leaves the buffer (the model's choice, log 1). Every answer is one response behind those formed before, and the lines then
stand as R146 and R147 give. -/
def Obligations.RequestFrameTaken : Prop :=
  (∀ (s : State) (f : Frame) (rest : List Frame) (i : Instr), s.resetHeld = false → s.buffer = f :: rest →
    requestFrame i = some f → exec .linkCheck s = exec i s)
  ∧ (∀ (s : State) (i : Instr) (f : Frame), requestFrame i = some f →
    (∀ rest, s.buffer = f :: rest →
      s.takeOff i = { s with buffer := rest, ready := decide (rest.length ≤ 11) })
    ∧ (s.buffer = [] → s.takeOff i = s)
    ∧ ∀ g rest, s.buffer = g :: rest → parseFrame g ≠ .request i → s.takeOff i = s)
  ∧ ∀ (s : State) (code tag : Byte) (o : OutcomeCode) (payload : List Byte),
    (s.answer code tag o payload).driveLines =
      { s with
        tx := s.tx ++ [⟨code, tag, o, payload⟩]
        attnN := !(s.answer code tag o payload).attnAsserted, faultN := !(s.answer code tag o payload).faultAsserted }

/-- R160, R163, R169: the frame of each of the 22 requests, with its code, its tag and its payload fields in order, multi-byte
fields most significant byte first; the bytes of a frame; the CRC, which over the nine bytes 31h to 39h is 29B1h. The frame
sent for a request stands for that request, with every field at every value. A command has no frame exactly if it is no
request: FRAME_ARRIVAL, LINK_CHECK, the pins' commands and the part's own clock, sweep and timer events.
R171: a byte on the line is one start bit, its eight bits least significant first, and one stop bit; bytes on the line read
back; LTX carries the responses' frames (R160) in the order formed. -/
def Obligations.RequestFramesReadBack : Prop :=
  (∀ (i : Instr) (f : Frame), requestFrame i = some f → parseFrame f = .request i)
  ∧ (∀ i : Instr, requestFrame i = none ↔
      (∃ bytes, i = .frameArrival bytes) ∨ i = .linkCheck ∨ i = .pinReset ∨ i = .tuStep ∨ i = .passStart ∨ i = .sweepVisit
      ∨ (∃ b, i = .graceExpiry b ∨ i = .pulse b ∨ i = .lostExpiry b ∨ i = .stallExpiry b) ∨ i = .resetNReleased)
  ∧ (let sends (i : Instr) (code tag : Byte) (payload : List Byte) : Prop :=
      let len : Byte := BitVec.ofNat 8 payload.length
      requestFrame i = some ⟨code, tag, len, payload, crc ([code, tag, len] ++ payload)⟩
    let key (k : Key) : List Byte := be 3 k.terminal.toNat ++ be 3 k.sequence.toNat
    ∀ (t x y : Byte) (k m : Key) (w : BitVec 16) (r : BitVec 32),
      sends (.lodge t x k y none) 0x01 t ([x] ++ key k ++ [y])
      ∧ sends (.lodge t x k y (some r)) 0x01 t ([x] ++ key k ++ [y] ++ be 4 r.toNat)
      ∧ sends (.advance t k r) 0x02 t (key k ++ be 4 r.toNat)
      ∧ sends (.release t k x) 0x03 t (key k ++ [x])
      ∧ sends (.lookup t k) 0x04 t (key k)
      ∧ sends (.peek t w) 0x05 t (be 2 w.toNat)
      ∧ sends (.enrol t x) 0x06 t [x]
      ∧ sends (.reinstate t x) 0x07 t [x]
      ∧ sends (.retire t x) 0x08 t [x]
      ∧ sends (.declare t x) 0x09 t [x]
      ∧ sends (.absolve t x) 0x0A t [x]
      ∧ sends (.take t x y) 0x0B t [x, y]
      ∧ sends (.purge t x) 0x0C t [x]
      ∧ sends (.report t x w) 0x0D t ([x] ++ be 2 w.toNat)
      ∧ sends (.board t x) 0x0E t [x]
      ∧ sends (.device t x) 0x0F t [x]
      ∧ sends (.getgroup t x) 0x11 t [x]
      ∧ (∀ en kind low high events : Byte, sends (.setwatch t x ⟨en, kind, k, m, low, high, events⟩) 0x12 t
          ([x, en, kind] ++ key k ++ key m ++ [low, high, events]))
      ∧ sends (.notice t) 0x13 t []
      ∧ sends (.test t x) 0x14 t [x]
      ∧ sends (.clear t) 0x15 t []
      ∧ sends (.ident t) 0x16 t []
      ∧ (∀ f : Timebase, sends (.setgroupTimebase t f) 0x10 t [0, f.pre, f.div, f.vpt])
      ∧ (∀ (c : Fin 4) (f : Profile), sends (.setgroupProfile t c f) 0x10 t
          ([BitVec.ofNat 8 (1 + c.val)] ++ be 2 f.authFloor.toNat ++ be 2 f.authCeil.toNat ++ [f.k] ++ be 3 f.settle.toNat))
      ∧ (∀ f : Latency, sends (.setgroupLatency t f) 0x10 t ([5] ++ be 2 f.seedLat.toNat ++ [f.gain]))
      ∧ (∀ f : Weights, sends (.setgroupWeights t f) 0x10 t
          ([6] ++ be 2 f.wAuth.toNat ++ be 2 f.wSettle.toNat ++ be 2 f.wStall.toNat ++ be 2 f.wLost.toNat
            ++ be 2 f.wRacing.toNat ++ be 2 f.wXcheck.toNat))
      ∧ (∀ f : Thresholds, sends (.setgroupThresholds t f) 0x10 t
          ([7] ++ be 2 f.alert.toNat ++ be 2 f.hysteresis.toNat ++ be 2 f.verdict.toNat ++ [f.creditShift]))
      ∧ (∀ f : Heartbeat, sends (.setgroupHeartbeat t f) 0x10 t
          ([8] ++ be 2 f.hbMin.toNat ++ be 2 f.hbMax.toNat ++ be 3 f.stallLimit.toNat ++ [f.grace, f.gdiv]))
      ∧ (∀ f : Guard, sends (.setgroupGuard t f) 0x10 t ([9, f.maxDown, f.ccPct] ++ be 2 f.xchkTol.toNat))
      ∧ (∀ f : TableSettings, sends (.setgroupTable t f) 0x10 t ([10] ++ be 2 f.quota.toNat ++ be 2 f.highMark.toNat))
      ∧ ∀ f : Masks, sends (.setgroupMasks t f) 0x10 t ([11] ++ be 2 f.noticeMask.toNat ++ [f.faultMask]))
  ∧ (∀ f : Frame, f.bytes = [0xA5, f.code, f.tag, f.len] ++ f.payload
      ++ [BitVec.ofNat 8 (f.crc.toNat / 256), BitVec.ofNat 8 f.crc.toNat])
  ∧ (∀ n, be 2 n = [BitVec.ofNat 8 (n / 256), BitVec.ofNat 8 n]
      ∧ be 3 n = [BitVec.ofNat 8 (n / 65536), BitVec.ofNat 8 (n / 256), BitVec.ofNat 8 n]
      ∧ be 4 n = [BitVec.ofNat 8 (n / 16777216), BitVec.ofNat 8 (n / 65536), BitVec.ofNat 8 (n / 256), BitVec.ofNat 8 n])
  ∧ crc [0x31, 0x32, 0x33, 0x34, 0x35, 0x36, 0x37, 0x38, 0x39] = 0x29B1
  ∧ crc [] = 0xFFFF
  ∧ (∀ (bytes : List Byte) (b : Byte), crc (bytes ++ [b]) =
      (List.range 8).foldl (fun (r : BitVec 16) _ => if r.msb = true then (r <<< 1) ^^^ 0x1021#16 else r <<< 1)
        (crc bytes ^^^ (b.zeroExtend 16 <<< 8)))
  ∧ (∀ b : Byte, byteOnLine b =
      [.start, .data (b.getLsbD 0), .data (b.getLsbD 1), .data (b.getLsbD 2), .data (b.getLsbD 3), .data (b.getLsbD 4),
        .data (b.getLsbD 5), .data (b.getLsbD 6), .data (b.getLsbD 7), .stop])
  ∧ (∀ bytes, bytesFromLine (bytesOnLine bytes) = some bytes)
  ∧ ∀ (s : State) (r : Response),
    let covered := [r.code, r.tag, r.outcome.byte, BitVec.ofNat 8 r.payload.length] ++ r.payload
    ({ s with tx := s.tx ++ [r] } : State).transmitted =
      s.transmitted ++ (0xA5 :: covered ++ be 2 (crc covered).toNat).flatMap byteOnLine

/-! ## Custody requests -/

/-- R12, R25, R26, R70: an accepted LODGE takes the free-list head, writes the payload with its decision deadline, adds the
index entry and the list place, raises occupancy and outstanding, arms the stall timer at a 0-to-1 rise in LIVE or DOUBTFUL,
offers the LODGE event, and answers the slot and the deadline. -/
def Obligations.LodgeAccepted : Prop :=
  ∀ (s : State) (tag board cls : Byte) (key : Key) (router : Option (BitVec 32)) (b : Bd) (c : Fin 4) (n : Nat)
    (rest : List Nat),
    s.resetHeld = false → s.halted = false → board.toNat = b.val → cls.toNat = c.val → InService (s.board b).state →
    (s.profile c).valid = true → s.lookupKey key = none → (s.board b).outstanding < s.quota → s.free = n :: rest →
    let i := Instr.lodge tag board key cls router
    let f := (s.profile c).fields
    let p : Payload :=
      { key := key, cls := c, lodgeTime := s.clock
        deadline := s.clock + BitVec.ofNat 32
          (clamp ((s.board b).latency * f.k.toNat / 64) f.authFloor.toNat f.authCeil.toNat)
        decision := none, routerTag := router, lateAuth := false, lateSettle := false, overdue := none
        watchSet := s.matchSet key b }
    let crosses := s.tableHighArmed = true ∧ s.highMark ≤ s.occupancy + 1
    let u : State :=
      { s.takeOff i with
        slots := mapPut n (.record .lodged b p (parityOf p)) s.slots
        index := mapPut (keyNumber key) n s.index
        free := rest
        lists := s.lists.set b.val (s.list b ++ [n]) b.isLt
        occupancy := s.occupancy + 1
        tableHighArmed := if crosses then false else s.tableHighArmed
        latches := { (s.offer .lodge n b key p.watchSet).latches with
          tableHigh :=
            if crosses then some (s.latches.tableHigh.getD ⟨s.clock, s.occupancy + 1⟩) else s.latches.tableHigh }
        boards := s.boards.set b.val
          { s.board b with
            outstanding := (s.board b).outstanding + 1
            stallExpiry :=
              if (s.board b).outstanding = 0 ∧ ((s.board b).state = .live ∨ (s.board b).state = .doubtful) then
                some (s.clock + BitVec.ofNat 32 s.stallLimit)
              else (s.board b).stallExpiry } b.isLt }
    exec i s = .next
      (u.answer 0x01 tag (if (s.board b).state = .doubtful then .acceptedDoubt else .accepted)
        (be 2 n ++ be 4 p.deadline.toNat)).driveLines

/-- R24: LODGE's checks in order; the first that fails gives the answer, and the request changes nothing. -/
def Obligations.LodgeRefused : Prop :=
  ∀ (s : State) (tag board cls : Byte) (key : Key) (router : Option (BitVec 32)), s.resetHeld = false →
    let i := Instr.lodge tag board key cls router
    (s.halted = true → exec i s = .next (answered i s 0x01 tag .halted []))
    ∧ (s.halted = false → 32 ≤ board.toNat → exec i s = .next (answered i s 0x01 tag .outOfRange [0]))
    ∧ (s.halted = false → board.toNat < 32 → 4 ≤ cls.toNat → exec i s = .next (answered i s 0x01 tag .outOfRange [2]))
    ∧ ∀ (b : Bd) (c : Fin 4), s.halted = false → board.toNat = b.val → cls.toNat = c.val →
      (¬ InService (s.board b).state →
        exec i s = .next (answered i s 0x01 tag .boardState ((s.board b).state.byte :: be 2 (s.board b).outstanding)))
      ∧ (InService (s.board b).state → (s.profile c).valid = false →
        exec i s = .next (answered i s 0x01 tag .profileInvalid []))
      ∧ (InService (s.board b).state → (s.profile c).valid = true → s.lookupKey key ≠ none →
        exec i s = .next (answered i s 0x01 tag .duplicate []))
      ∧ (InService (s.board b).state → (s.profile c).valid = true → s.lookupKey key = none →
        s.quota ≤ (s.board b).outstanding → exec i s = .next (answered i s 0x01 tag .overQuota []))
      ∧ (InService (s.board b).state → (s.profile c).valid = true → s.lookupKey key = none →
        (s.board b).outstanding < s.quota → s.free = [] → exec i s = .next (answered i s 0x01 tag .full []))

/-- R28: the four judgements of a record's current stage, for a board in WARMING, LIVE or DOUBTFUL, in the answers of ADVANCE
and RELEASE; past is the past test, so a request taken at the deadline itself is late. R164: the codes of the judgements and
of the two record stages. -/
def Obligations.LatenessJudged : Prop :=
  [Judgement.onTime, .charged, .excused, .marked].map Judgement.byte = [0, 1, 2, 3]
  ∧ [Stage.lodged, .decided].map Stage.byte = [1, 2]
  ∧ ∀ (now : Time) (st : BoardState) (p : Payload), InService st →
    (judge now st p = .marked ↔ p.overdue ≠ none)
    ∧ (judge now st p = .charged ↔ p.overdue = none ∧ (now - p.deadline).toNat < 2 ^ 31 ∧ Chargeable st)
    ∧ (judge now st p = .excused ↔ p.overdue = none ∧ (now - p.deadline).toNat < 2 ^ 31 ∧ st = .warming)
    ∧ (judge now st p = .onTime ↔ p.overdue = none ∧ 2 ^ 31 ≤ (now - p.deadline).toNat)
    ∧ (p.overdue = none → now = p.deadline → judge now st p ≠ .onTime)

/-- R67, R68: a sample s moves L by floor((16 s - L) / 2^g), never past 16 s, so that L stays in 0..1,048,560. -/
def Obligations.LatencyEstimateMoves : Prop :=
  ∀ (latency sample g : Nat), latency ≤ 1048560 → sample ≤ 65535 → 1 ≤ g → g ≤ 6 →
    (updatedLatency latency sample g : Int) = latency + Int.fdiv (16 * sample - latency) (2 ^ g)
    ∧ (latency ≤ 16 * sample → latency ≤ updatedLatency latency sample g ∧ updatedLatency latency sample g ≤ 16 * sample)
    ∧ (16 * sample < latency →
      16 * sample ≤ updatedLatency latency sample g ∧ updatedLatency latency sample g < latency)
    ∧ updatedLatency latency sample g ≤ 1048560

/-- R31, R33, R34, R66, R72: an ADVANCE that passes its checks re-stages the record, offers OVERDUE (when judged CHARGED or
EXCUSED) and ADVANCE, takes the sample, writes the progress, charges a CHARGED stage last, and answers. That a grant the charge
makes leaves change and answer standing when its walk fails is the model's choice (log 36). -/
def Obligations.AdvanceRestages : Prop :=
  ∀ (s : State) (tag : Byte) (key : Key) (approval : BitVec 32) (n : Nat) (b : Bd) (p : Payload) (parity : Bool),
    s.resetHeld = false → s.halted = false → s.lookupKey key = some n →
    s.slot n = some (.record .lodged b p parity) → InService (s.board b).state → readsClean p parity = true → p.key = key →
    let i := Instr.advance tag key approval
    let j := judge s.clock (s.board b).state p
    let late := j = .charged ∨ j = .excused
    let q : Payload :=
      { p with
        decision := some approval, deadline := s.clock + BitVec.ofNat 32 (s.settle p.cls), overdue := none
        lateAuth := p.lateAuth || decide late }
    let sample := if q.lateAuth then 65535 else min (s.clock - p.lodgeTime).toNat 65535
    let offered := if late then s.offer .overdue n b key p.watchSet else s
    let u : State :=
      { s.takeOff i with
        slots := mapPut n (.record .decided b q (parityOf q)) s.slots
        latches := (offered.offer .advance n b key p.watchSet).latches
        boards := s.boards.set b.val
          { s.board b with
            latency := updatedLatency (s.board b).latency sample s.gain
            lastProgress := some s.clock
            stallExpiry :=
              if ((s.board b).state = .live ∨ (s.board b).state = .doubtful) ∧ 0 < (s.board b).outstanding then
                some (s.clock + BitVec.ofNat 32 s.stallLimit)
              else (s.board b).stallExpiry } b.isLt }
    exec i s = .next
      ((if j = .charged then u.charge b .authOver else u).answer 0x02 tag (if j = .onTime then .accepted else .late)
        (be 2 n ++ be 4 q.deadline.toNat ++ [j.byte, BitVec.ofNat 8 q.lateAuth.toNat])).driveLines

/-- R32, R36: the checks of ADVANCE and of RELEASE in order. A parity failure makes the record DAMAGED; every other refusal changes
nothing. -/
def Obligations.AdvanceAndReleaseRefused : Prop :=
  (∀ (s : State) (tag : Byte) (key : Key) (approval : BitVec 32), s.resetHeld = false →
    let i := Instr.advance tag key approval
    (s.halted = true → exec i s = .next (answered i s 0x02 tag .halted []))
    ∧ (s.halted = false → s.lookupKey key = none → exec i s = .next (answered i s 0x02 tag .notFound []))
    ∧ ∀ (n : Nat) (st : Stage) (b : Bd) (p : Payload) (parity : Bool), s.halted = false → s.lookupKey key = some n →
      s.slot n = some (.record st b p parity) →
      ((s.board b).state = .silent → exec i s = .next (answered i s 0x02 tag .held (be 2 n)))
      ∧ ((s.board b).state ≠ .silent → st = .decided → exec i s = .next (answered i s 0x02 tag .wrongStage (be 2 n)))
      ∧ ((s.board b).state ≠ .silent → st = .lodged → readsClean p parity = false →
        exec i s = .next (((s.takeOff i).damageRecord n b p parity).answer 0x02 tag .notFound []).driveLines))
  ∧ ∀ (s : State) (tag : Byte) (key : Key) (outcome : Byte), s.resetHeld = false →
    let i := Instr.release tag key outcome
    (s.halted = true → exec i s = .next (answered i s 0x03 tag .halted []))
    ∧ (s.halted = false → 4 ≤ outcome.toNat → exec i s = .next (answered i s 0x03 tag .outOfRange [1]))
    ∧ (s.halted = false → outcome.toNat ≤ 3 → s.lookupKey key = none →
      exec i s = .next (answered i s 0x03 tag .notFound []))
    ∧ ∀ (n : Nat) (st : Stage) (b : Bd) (p : Payload) (parity : Bool), s.halted = false → outcome.toNat ≤ 3 →
      s.lookupKey key = some n → s.slot n = some (.record st b p parity) → readsClean p parity = false →
      exec i s = .next (((s.takeOff i).damageRecord n b p parity).answer 0x03 tag .notFound []).driveLines

/-- R14, R31, R38, R39: a RELEASE of a record whose board is WARMING, LIVE or DOUBTFUL judges it, offers its events, retires
it whole, steps sample, release count and progress unless CANCELLED, and credits or charges the board last. That a grant
made on the way leaves change and answer standing when its walk fails is the model's choice (log 36). -/
def Obligations.ReleaseRetires : Prop :=
  ∀ (s : State) (tag : Byte) (key : Key) (outcome : Byte) (n : Nat) (st : Stage) (b : Bd) (p : Payload) (parity : Bool),
    s.resetHeld = false → s.halted = false → outcome.toNat ≤ 3 → s.lookupKey key = some n →
    s.slot n = some (.record st b p parity) → InService (s.board b).state → readsClean p parity = true → p.key = key →
    s.removalSound b n = true →
    let i := Instr.release tag key outcome
    let j := judge s.clock (s.board b).state p
    let late := j = .charged ∨ j = .excused
    let lateAuth := p.lateAuth || (decide (st = .lodged) && decide late)
    let lateSettle := p.lateSettle || (decide (st = .decided) && decide late)
    let x := s.board b
    let left := (s.list b).erase n
    let o := if left = [] then 0 else x.outstanding - 1
    let stall := if o = 0 then none else x.stallExpiry
    let sample := if lateAuth then 65535 else min (s.clock - p.lodgeTime).toNat 65535
    let credit := outcome ≠ 3 ∧ lateAuth = false ∧ lateSettle = false ∧ (x.state = .live ∨ x.state = .doubtful)
    let offered := if late then s.offer .overdue n b key p.watchSet else s
    let u : State :=
      { s.takeOff i with
        slots := mapRemove n s.slots
        index := s.index.filter fun e => e.2 != n
        lists := s.lists.set b.val left b.isLt
        free := s.free ++ [n]
        occupancy := s.occupancy - 1
        tableHighArmed := if s.occupancy - 1 + 256 < s.highMark then true else s.tableHighArmed
        latches := (offered.offer .release n b key p.watchSet).latches
        boards := s.boards.set b.val
          (if outcome = 3 then { x with outstanding := o, stallExpiry := stall }
          else
            { x with
              outstanding := o
              latency := if st = .lodged then updatedLatency x.latency sample s.gain else x.latency
              releases := x.releases + 1
              lastProgress := some s.clock
              stallExpiry :=
                if (x.state = .live ∨ x.state = .doubtful) ∧ 0 < o then some (s.clock + BitVec.ofNat 32 s.stallLimit)
                else stall }) b.isLt }
    let kind : Evidence := match st with | .lodged => .authOver | .decided => .settleOver
    exec i s = .next
      ((if credit then u.credit b else if j = .charged then u.charge b kind else u).answer 0x03 tag
        (if j = .onTime then .accepted else .late)
        (be 2 n ++ [st.byte, j.byte, BitVec.ofNat 8 (decide credit).toNat])).driveLines

/-- R37: a RELEASE of a record of a SILENT board retires it without judgement or report, answers RELEASED_HELD with the slot,
and drains the board whose list it leaves empty. The move to DRAINED leaves the counts and the common-cause state as they
stood and latches no notice (R117, R118, R123). -/
def Obligations.ReleaseOfHeldRecord : Prop :=
  ∀ (s : State) (tag : Byte) (key : Key) (outcome : Byte) (n : Nat) (st : Stage) (b : Bd) (p : Payload) (parity : Bool),
    s.resetHeld = false → s.halted = false → outcome.toNat ≤ 3 → s.lookupKey key = some n →
    s.slot n = some (.record st b p parity) → (s.board b).state = .silent → readsClean p parity = true → p.key = key →
    s.removalSound b n = true →
    let i := Instr.release tag key outcome
    let x := s.board b
    let left := (s.list b).erase n
    let o := if left = [] then 0 else x.outstanding - 1
    let u : State :=
      { s.takeOff i with
        slots := mapRemove n s.slots
        index := s.index.filter fun e => e.2 != n
        lists := s.lists.set b.val left b.isLt
        free := s.free ++ [n]
        occupancy := s.occupancy - 1
        tableHighArmed := if s.occupancy - 1 + 256 < s.highMark then true else s.tableHighArmed
        latches := (s.offer .release n b key p.watchSet).latches
        boards := s.boards.set b.val
          { x with
            outstanding := o
            stallExpiry := if o = 0 then none else x.stallExpiry
            state := if left = [] then .drained else .silent } b.isLt }
    exec i s = .next (u.answer 0x03 tag .releasedHeld (be 2 n)).driveLines

/-- R41, R42: LOOKUP and PEEK answer the record report of a record that reads clean and change nothing else; a parity failure
makes it DAMAGED; PEEK shows FREE and DAMAGED slots. R166: the 30 bytes of a record entry, which TAKE returns too, and of a
DAMAGED one. -/
def Obligations.LookupAndPeekReport : Prop :=
  (∀ (n : Nat) (st : Stage) (b : Bd) (p : Payload) (parity held : Bool),
    let bit (v : Bool) (k : Nat) : Nat := v.toNat * 2 ^ k
    let stage : Nat := match st with | .lodged => 1 | .decided => 2
    let excused : Bool := match p.overdue with | none => false | some o => o.excused
    let overdue : Time := match p.overdue with | none => 0 | some o => o.time
    recordEntry n (some (.record st b p parity)) held =
      be 2 n
        ++ [BitVec.ofNat 8 (stage + bit held 2 + bit p.lateAuth 3 + bit p.lateSettle 4 + bit p.decision.isSome 5
              + bit p.routerTag.isSome 6 + bit p.overdue.isSome 7),
            BitVec.ofNat 8 (p.watchSet.toNat + bit excused 4 + p.cls.val * 2 ^ 5)]
        ++ be 3 p.key.terminal.toNat ++ be 3 p.key.sequence.toNat ++ be 4 p.lodgeTime.toNat ++ be 4 p.deadline.toNat
        ++ be 4 (p.decision.getD 0).toNat ++ be 4 (p.routerTag.getD 0).toNat ++ be 4 overdue.toNat)
  ∧ (∀ (n : Nat) (x : Slot) (held : Bool), x.isDamaged = true →
      recordEntry n (some x) held = be 2 n ++ [if held = true then 7 else 3] ++ List.replicate 27 0)
  ∧ ∀ (s : State) (tag : Byte) (key : Key), s.resetHeld = false →
    (s.lookupKey key = none → exec (.lookup tag key) s = .next (answered (.lookup tag key) s 0x04 tag .notFound []))
    ∧ (∀ (n : Nat) (st : Stage) (b : Bd) (p : Payload) (parity : Bool), s.slot n = some (.record st b p parity) →
      (s.lookupKey key = some n → readsClean p parity = true → p.key = key →
        exec (.lookup tag key) s = .next (answered (.lookup tag key) s 0x04 tag .found
          (BitVec.ofNat 8 b.val :: recordEntry n (s.slot n) (decide ((s.board b).state = .silent)))))
      ∧ (s.lookupKey key = some n → readsClean p parity = false →
        exec (.lookup tag key) s =
          .next (((s.takeOff (.lookup tag key)).damageRecord n b p parity).answer 0x04 tag .notFound []).driveLines))
    ∧ ∀ w : BitVec 16,
      (8192 ≤ w.toNat → exec (.peek tag w) s = .next (answered (.peek tag w) s 0x05 tag .outOfRange [0]))
      ∧ (w.toNat < 8192 → s.slot w.toNat = none →
        exec (.peek tag w) s =
          .next (answered (.peek tag w) s 0x05 tag .slot (255 :: be 2 w.toNat ++ List.replicate 28 0)))
      ∧ (∀ (b : Bd) (p : Payload) (parity : Bool), w.toNat < 8192 → s.slot w.toNat = some (.damaged b p parity) →
        exec (.peek tag w) s = .next (answered (.peek tag w) s 0x05 tag .slot
          (BitVec.ofNat 8 b.val :: be 2 w.toNat ++ [if (s.board b).state = .silent then 7 else 3]
            ++ List.replicate 27 0)))
      ∧ (w.toNat < 8192 → s.slot w.toNat = some .unattributed →
        exec (.peek tag w) s = .next (answered (.peek tag w) s 0x05 tag .slot
          (255 :: be 2 w.toNat ++ [3] ++ List.replicate 27 0)))
      ∧ ∀ (st : Stage) (b : Bd) (p : Payload) (parity : Bool), w.toNat < 8192 →
        s.slot w.toNat = some (.record st b p parity) →
        (readsClean p parity = true →
          exec (.peek tag w) s = .next (answered (.peek tag w) s 0x05 tag .slot
            (BitVec.ofNat 8 b.val :: recordEntry w.toNat (s.slot w.toNat) (decide ((s.board b).state = .silent)))))
        ∧ (readsClean p parity = false →
          exec (.peek tag w) s = .next (((s.takeOff (.peek tag w)).damageRecord w.toNat b p parity).answer 0x05 tag .slot
            (BitVec.ofNat 8 b.val :: be 2 w.toNat
              ++ [if (s.board b).state = .silent then 7 else 3] ++ List.replicate 27 0)).driveLines)

/-- R15: a record found damaged loses its index entry by slot, keeps its board link and list place, raises the board's damaged
count alone and latches DAMAGE; no evidence is charged. R2: its payload stays in the slot. That the index entry goes while the
device is HALTED too is the model's choice (log 40).
R6: with the index in its canonical form, every key keeps its answer but the one that gave the slot, which gives none.
R151: the parity code stored with a payload agrees with it, and finds every change of an odd number of its bits; that the code
is one bit over these bits is the model's reading (log 12). -/
def Obligations.DamagedRecordKeepsItsPlace : Prop :=
  (∀ (s : State) (n : Nat) (b : Bd) (p : Payload) (parity : Bool), mapWf s.index = true →
    let t := s.damageRecord n b p parity
    (∀ key, t.lookupKey key = if s.lookupKey key = some n then none else s.lookupKey key)
    ∧ (∀ m, t.slot m = if m = n then some (.damaged b p parity) else s.slot m)
    ∧ (∀ c, t.board c = if c = b then { s.board b with damaged := (s.board b).damaged + 1 } else s.board c)
    ∧ t =
      { s with
        slots := mapPut n (.damaged b p parity) s.slots
        index := s.index.filter fun e => e.2 != n
        boards := s.boards.set b.val { s.board b with damaged := (s.board b).damaged + 1 } b.isLt
        latches := { s.latches with damage := some (match s.latches.damage with
          | none => ⟨s.clock, n, some b, 1⟩
          | some d => { d with count := min 255 (d.count + 1) }) } })
  ∧ (∀ p : Payload, readsClean p (parityOf p) = true)
  ∧ ∀ p q : Payload, bitsChanged p q % 2 = 1 → readsClean q (parityOf p) = false

/-- R152, R153: an index entry that names a slot without record, or a clean record of another key, puts the device in HALTED:
the sweep stops, HALTED is latched, the request is answered HALTED and its change is left undone. RELEASE and LOOKUP test the
key of a record in either stage and of any board, ADVANCE that of a LODGED record whose board is not SILENT (R32). In HALTED a
LOOKUP that finds the failure is answered NOT_FOUND, and the latch, if set, absorbs the repeat.
A RELEASE whose walk of the custody list does not reach its record, reaches a slot of another board, or would leave the list
empty when its length is not the outstanding count, puts the device in HALTED for that list; how far the walk goes is the
model's choice (log 23). -/
def Obligations.IndexFailureHalts : Prop :=
  let stopped (i : Instr) (s : State) (what : Structure) : State :=
    { s.takeOff i with
      halted := true, sweepRunning := false
      latches := { s.latches with halted := some (s.latches.halted.getD ⟨s.clock, what⟩) } }
  let halt (i : Instr) (s : State) (what : Structure) (code tag : Byte) : State :=
    ((stopped i s what).answer code tag .halted []).driveLines
  (∀ (s : State) (tag outcome : Byte) (key : Key) (approval : BitVec 32) (n : Nat), s.resetHeld = false → s.halted = false →
    outcome.toNat ≤ 3 → s.lookupKey key = some n →
    (s.holdsRecord n = false
      ∨ ∃ b p parity, s.slot n = some (.record .lodged b p parity) ∧ (s.board b).state ≠ .silent
        ∧ readsClean p parity = true ∧ p.key ≠ key) →
    exec (.advance tag key approval) s = .next (halt (.advance tag key approval) s .keyIndex 0x02 tag)
    ∧ exec (.release tag key outcome) s = .next (halt (.release tag key outcome) s .keyIndex 0x03 tag)
    ∧ exec (.lookup tag key) s = .next (halt (.lookup tag key) s .keyIndex 0x04 tag))
  ∧ (∀ (s : State) (tag outcome : Byte) (key : Key) (n : Nat) (st : Stage) (b : Bd) (p : Payload) (parity : Bool),
    s.resetHeld = false → s.halted = false → outcome.toNat ≤ 3 → s.lookupKey key = some n →
    s.slot n = some (.record st b p parity) → readsClean p parity = true →
    (p.key ≠ key →
      exec (.release tag key outcome) s = .next (halt (.release tag key outcome) s .keyIndex 0x03 tag)
      ∧ exec (.lookup tag key) s = .next (halt (.lookup tag key) s .keyIndex 0x04 tag))
    ∧ (p.key = key →
      (n ∉ s.list b ∨ (∃ k ∈ (s.list b).takeWhile (fun k => decide (k ≠ n)), s.linkedTo b k = false)
        ∨ (s.list b).erase n = [] ∧ (s.list b).length ≠ (s.board b).outstanding) →
      exec (.release tag key outcome) s = .next (halt (.release tag key outcome) s (.custodyList b) 0x03 tag)))
  ∧ ∀ (s : State) (tag : Byte) (key : Key) (n : Nat), s.resetHeld = false → s.halted = true → s.lookupKey key = some n →
    (s.holdsRecord n = false
      ∨ ∃ st b p parity, s.slot n = some (.record st b p parity) ∧ readsClean p parity = true ∧ p.key ≠ key) →
    exec (.lookup tag key) s =
      .next ((stopped (.lookup tag key) s .keyIndex).answer 0x04 tag .notFound []).driveLines

/-- R137 to R139: an event offered to a watch set is latched by exactly the units of the set that are enabled, hold the event
in their event set and are not unit 1 of a pair; a set latch is overwritten with overrun yes; nothing else changes.
R136, R137: which units a new record's watch set holds. -/
def Obligations.WatchUnitsMatchAndLatch : Prop :=
  (∀ (s : State) (e : WatchEvent) (n : Nat) (b : Bd) (key : Key) (watchSet : BitVec 4),
    let t := s.offer e n b key watchSet
    (∀ u : Fin 4, t.latches.watch[u.val] =
      if watchSet.getLsbD u.val = true ∧ (s.unit u).enable = true ∧ (s.unit u).events.getLsbD e.number = true
          ∧ ¬ (u = 1 ∧ (s.unit 0).kind = .range) then
        some ⟨s.clock, e, n, b, key, (s.latches.watch[u.val]).isSome⟩
      else s.latches.watch[u.val])
    ∧ { t with latches := { t.latches with watch := s.latches.watch } } = s)
  ∧ ∀ (s : State) (key : Key) (b : Bd) (u : Fin 4),
    (s.matchSet key b).getLsbD u.val = true ↔
      (s.unit u).enable = true ∧ ¬ (u = 1 ∧ (s.unit 0).kind = .range)
        ∧ (((s.unit u).kind = .key ∧ key.terminal &&& (s.unit u).mask.terminal
                = (s.unit u).value.terminal &&& (s.unit u).mask.terminal
              ∧ key.sequence &&& (s.unit u).mask.sequence = (s.unit u).value.sequence &&& (s.unit u).mask.sequence)
          ∨ ((s.unit u).kind = .board ∧ (s.unit u).low ≤ b ∧ b ≤ (s.unit u).high)
          ∨ ((s.unit u).kind = .range ∧ u = 0
              ∧ (let low := (s.unit 0).value
                low.terminal < key.terminal ∨ (low.terminal = key.terminal ∧ low.sequence ≤ key.sequence))
              ∧ (let high := (s.unit 1).value
                key.terminal < high.terminal ∨ (key.terminal = high.terminal ∧ key.sequence ≤ high.sequence))))

/-! ## Boards -/

/-- R78, R79, R80: an accepted ENROL makes an ABSENT board WARMING, with the initialisation of R79, counts it active, and
answers the grace end; an exit from the common-cause state is reconsidered. The premise on the pending set is
VerdictUnitKept's.
R84: an accepted REINSTATE makes a DRAINED board WARMING as ENROL does, moves it from the down count to the active count,
and reconsiders the pending set. A walk that fails in a grant the reconsideration makes leaves both answers (the model's
choice, log 36). -/
def Obligations.EnrolAndReinstateEnterWarming : Prop :=
  (∀ (s : State) (tag board : Byte) (b : Bd), s.resetHeld = false → board.toNat = b.val → (s.board b).state = .absent →
    s.cause b = none →
    let i := Instr.enrol tag board
    let h := s.groups.heartbeat.fields
    let graceEnd := s.clock + BitVec.ofNat 32 (max 1 h.grace.toNat * 2 ^ (6 + min 3 h.gdiv.toNat))
    let u : State :=
      { s.takeOff i with
        boards := s.boards.set b.val
          { s.board b with
            state := .warming, score := 0, charges := 0, latency := 16 * max 1 s.groups.latency.fields.seedLat.toNat
            releases := 0, baseline := none, graceEnd := some graceEnd, stallExpiry := none, lastProgress := none
            lostExpiry := none, heard := false, pending := false, verdictTime := none } b.isLt
        lines := s.lines.set b.val ⟨none, false⟩ b.isLt
        active := s.active + 1 }
    let v := u.reevaluateCommon
    let w := if s.commonCause = true ∧ v.commonCause = false then v.reconsider else v
    exec i s = .next (w.answer 0x06 tag .accepted (1 :: be 4 graceEnd.toNat)).driveLines)
  ∧ ∀ (s : State) (tag board : Byte) (b : Bd), s.resetHeld = false → board.toNat = b.val → (s.board b).state = .drained →
    s.cause b = none →
    let i := Instr.reinstate tag board
    let h := s.groups.heartbeat.fields
    let graceEnd := s.clock + BitVec.ofNat 32 (max 1 h.grace.toNat * 2 ^ (6 + min 3 h.gdiv.toNat))
    let u : State :=
      { s.takeOff i with
        boards := s.boards.set b.val
          { s.board b with
            state := .warming, score := 0, charges := 0, latency := 16 * max 1 s.groups.latency.fields.seedLat.toNat
            releases := 0, baseline := none, graceEnd := some graceEnd, stallExpiry := none, lastProgress := none
            lostExpiry := none, heard := false, pending := false, verdictTime := none } b.isLt
        lines := s.lines.set b.val ⟨none, false⟩ b.isLt
        active := s.active + 1
        down := s.down - 1 }
    exec i s = .next (u.reevaluateCommon.reconsider.answer 0x07 tag .accepted (1 :: be 4 graceEnd.toNat)).driveLines

/-- R85, R86: an accepted RETIRE of a WARMING, LIVE or DRAINED board with nothing outstanding makes it ABSENT, disarms its
timers, keeps its score, estimate, counts and baseline, and lowers the count it was in; a fall of the down count reconsiders
the pending set. The common-cause state is re-evaluated when the active count has fallen (R118). A walk that fails in a grant
the reconsideration makes leaves the answer (the model's choice, log 36). -/
def Obligations.RetireLeavesService : Prop :=
  ∀ (s : State) (tag board : Byte) (b : Bd), s.resetHeld = false → board.toNat = b.val →
    ((s.board b).state = .warming ∨ (s.board b).state = .live ∨ (s.board b).state = .drained) →
    (s.board b).outstanding = 0 → s.cause b = none →
    let i := Instr.retire tag board
    let drained := (s.board b).state = .drained
    let u : State :=
      { s.takeOff i with
        boards := s.boards.set b.val
          { s.board b with
            state := .absent, graceEnd := none, stallExpiry := none, lostExpiry := none, heard := false
            verdictTime := none } b.isLt
        lines := s.lines.set b.val { s.line b with intervalArmed := false } b.isLt
        active := if drained then s.active else s.active - 1
        down := if drained then s.down - 1 else s.down }
    let v := if drained then u else u.reevaluateCommon
    let w := if drained ∨ s.commonCause = true ∧ v.commonCause = false then v.reconsider else v
    exec i s = .next (w.answer 0x08 tag .accepted (0 :: be 2 (s.board b).score)).driveLines

/-- R88: an accepted ABSOLVE sets the score of a LIVE or DOUBTFUL board to 0, takes it out of the pending set, makes it LIVE,
and leaves every measurement and timer as it stood. An exit from the common-cause state is reconsidered; a walk that fails in a
grant this makes leaves the answer (the model's choice, log 36). -/
def Obligations.AbsolveClearsScore : Prop :=
  ∀ (s : State) (tag board : Byte) (b : Bd), s.resetHeld = false → board.toNat = b.val → Chargeable (s.board b).state →
    let i := Instr.absolve tag board
    let u : State :=
      { s.takeOff i with
        boards := s.boards.set b.val { s.board b with state := .live, score := 0, pending := false } b.isLt
        withheld := s.withheld.set b.val none b.isLt
        doubtful := if (s.board b).state = .doubtful then s.doubtful - 1 else s.doubtful }
    let v := if (s.board b).state = .doubtful then u.reevaluateCommon else u
    let w := if s.commonCause = true ∧ v.commonCause = false then v.reconsider else v
    exec i s = .next (w.answer 0x0A tag .accepted [2, 0, 0]).driveLines

/-- R122, R123, R125: an accepted DECLARE grants the board its verdict whatever its score, pending flag and the common-cause
state, reconsiders the pending set when the grant ends the common-cause state (after the whole grant: the model's choice,
log 18), and answers what then stands. A walk that fails leaves that answer too (the model's choice, log 36).
In a sound table (TableKept) the board is then SILENT with its records held, or DRAINED with none, the verdict time now, the
records that read damaged counted, and everything else of its record frozen; every record keeps its slot and place, the
counts have moved, VERDICT is latched as DECLARED, and no other board is touched but by the reconsideration. -/
def Obligations.DeclareSilencesBoard : Prop :=
  ∀ (s : State) (tag board : Byte) (b : Bd), s.resetHeld = false → board.toNat = b.val → InService (s.board b).state →
    s.down < s.maxDown →
    let i := Instr.declare tag board
    let v := (s.takeOff i).grantVerdict b .declared
    let w := if s.commonCause = true ∧ v.commonCause = false then v.reconsider else v
    exec i s = .next (w.answer 0x09 tag .accepted
      ((w.board b).state.byte :: be 4 ((w.board b).verdictTime.getD 0).toNat ++ be 2 (w.board b).outstanding)).driveLines
    ∧ VerdictFrame (s.takeOff i) w
    ∧ (s.TableWf →
      let unclean (n : Nat) : Bool :=
        match s.slot n with
        | some (.record _ _ p parity) => !readsClean p parity
        | some (.damaged _ _ _) | some .unattributed => false
        | none => false
      w.board b =
          { s.board b with
            state := if (s.board b).outstanding = 0 then .drained else .silent
            verdictTime := some s.clock, pending := false, graceEnd := none, stallExpiry := none, lostExpiry := none
            damaged := (s.board b).damaged + ((s.list b).filter unclean).length }
        ∧ w.line b = { s.line b with intervalArmed := false } ∧ w.cause b = none
        ∧ (w.latches.verdict[b.val]) = some ((s.latches.verdict[b.val]).getD ⟨s.clock, .declared⟩)
        ∧ (∀ n, n ∉ s.list b ∨ unclean n = false → v.slot n = s.slot n)
        ∧ (∀ n st p parity, n ∈ s.list b → s.slot n = some (.record st b p parity) → readsClean p parity = false →
          v.slot n = some (.damaged b p parity))
        ∧ v.active = s.active - 1 ∧ v.down = s.down + 1
        ∧ v.doubtful = (if (s.board b).state = .doubtful then s.doubtful - 1 else s.doubtful) ∧ v.halted = s.halted
        ∧ (∀ c, c ≠ b → v.board c = s.board c ∧ v.line c = s.line c ∧ v.cause c = s.cause c)
        ∧ ∀ c, c ≠ b → s.cause c = none → w.board c = s.board c ∧ w.line c = s.line c ∧ w.cause c = none)

/-- R122: what a grant does: the record silenced, the counts moved and the common-cause state re-evaluated, VERDICT latched,
then the walk of the board's list.
When every slot of the list is linked to the board, each record is read in list order, HOLD offered when it reads clean and
the record made DAMAGED when not (R15); a list whose length is not the outstanding count puts the device in HALTED (R152), and
otherwise a board with nothing outstanding is drained. A slot of the list that is not linked to the board ends the walk there
and puts the device in HALTED; the grant stands and the board stays SILENT (R152; that a failed count test does not drain it
either is the model's reading, log 24).
The last clause says the same of a sound table whose records all read clean, by the state before the grant. -/
def Obligations.GrantHoldsRecords : Prop :=
  ∀ (s : State) (b : Bd) (path : VerdictPath), InService (s.board b).state →
    let silent : State :=
      { s with
        boards := s.boards.set b.val
          { s.board b with
            state := .silent, verdictTime := some s.clock, pending := false, graceEnd := none, stallExpiry := none
            lostExpiry := none } b.isLt
        lines := s.lines.set b.val { s.line b with intervalArmed := false } b.isLt
        withheld := s.withheld.set b.val none b.isLt
        active := s.active - 1
        doubtful := if (s.board b).state = .doubtful then s.doubtful - 1 else s.doubtful
        down := s.down + 1 }
    let noticed := silent.reevaluateCommon.latchVerdict b path
    let read (t : State) (n : Nat) : State :=
      match t.slot n with
      | some (.record _ _ p parity) =>
        if readsClean p parity = true then t.offer .hold n b p.key p.watchSet else t.damageRecord n b p parity
      | some (.damaged _ _ _) | some .unattributed => t
      | none => t
    let halt (t : State) : State :=
      { t with
        halted := true, sweepRunning := false
        latches := { t.latches with halted := some (t.latches.halted.getD ⟨t.clock, .custodyList b⟩) } }
    let drained (t : State) : State :=
      if (s.board b).outstanding = 0 then t.modifyBoard b fun x => { x with state := .drained } else t
    ((∀ n ∈ s.list b, s.linkedTo b n = true) →
      let walked := (s.list b).foldl read noticed
      s.grantVerdict b path = if (s.list b).length = (s.board b).outstanding then drained walked else halt walked)
    ∧ (∀ (reached beyond : List Nat) (bad : Nat), s.list b = reached ++ bad :: beyond →
      (∀ n ∈ reached, s.linkedTo b n = true) → s.linkedTo b bad = false →
      s.grantVerdict b path = halt (reached.foldl read noticed))
    ∧ (s.TableWf → s.CleanWf →
      let held := (s.list b).foldl (fun t n =>
        match s.slot n with
        | some (.record _ _ p _) => t.offer .hold n b p.key p.watchSet
        | some (.damaged _ _ _) | some .unattributed => t
        | none => t) noticed
      s.grantVerdict b path = drained held)

/-- R78, R84, R85, R88, R111, R125: the refusals of the board requests, in the order of their checks; a refusal changes
nothing. -/
def Obligations.BoardRequestsRefused : Prop :=
  ∀ (s : State) (tag board : Byte) (count : BitVec 16), s.resetHeld = false →
    (32 ≤ board.toNat →
      exec (.enrol tag board) s = .next (answered (.enrol tag board) s 0x06 tag .outOfRange [0])
      ∧ exec (.reinstate tag board) s = .next (answered (.reinstate tag board) s 0x07 tag .outOfRange [0])
      ∧ exec (.retire tag board) s = .next (answered (.retire tag board) s 0x08 tag .outOfRange [0])
      ∧ exec (.declare tag board) s = .next (answered (.declare tag board) s 0x09 tag .outOfRange [0])
      ∧ exec (.absolve tag board) s = .next (answered (.absolve tag board) s 0x0A tag .outOfRange [0])
      ∧ exec (.report tag board count) s = .next (answered (.report tag board count) s 0x0D tag .outOfRange [0])
      ∧ exec (.board tag board) s = .next (answered (.board tag board) s 0x0E tag .outOfRange [0]))
    ∧ ∀ b : Bd, board.toNat = b.val →
      let x := s.board b
      let why := x.state.byte :: be 2 x.outstanding
      (x.state ≠ .absent → exec (.enrol tag board) s = .next (answered (.enrol tag board) s 0x06 tag .boardState why))
      ∧ (x.state ≠ .drained →
        exec (.reinstate tag board) s = .next (answered (.reinstate tag board) s 0x07 tag .boardState why))
      ∧ (x.state = .absent ∨ x.state = .doubtful ∨ x.state = .silent ∨ 0 < x.outstanding →
        exec (.retire tag board) s = .next (answered (.retire tag board) s 0x08 tag .boardState why))
      ∧ (¬ InService x.state →
        exec (.declare tag board) s = .next (answered (.declare tag board) s 0x09 tag .boardState why)
        ∧ exec (.report tag board count) s = .next (answered (.report tag board count) s 0x0D tag .boardState why))
      ∧ (InService x.state → s.maxDown ≤ s.down →
        exec (.declare tag board) s = .next (answered (.declare tag board) s 0x09 tag .downLimit
          [BitVec.ofNat 8 s.down, BitVec.ofNat 8 s.maxDown]))
      ∧ (¬ Chargeable x.state →
        exec (.absolve tag board) s = .next (answered (.absolve tag board) s 0x0A tag .boardState why))

/-- R112: a REPORT that finds the baseline absent sets it to (count - release count) mod 2^16, compares nothing and charges
nothing.
R113: a REPORT with a baseline computes the signed discrepancy and charges XCHECK when its magnitude is above
XCHK_TOL + outstanding and the board is LIVE or DOUBTFUL; the baseline is not changed. A grant's walk that fails leaves the
answer (the model's choice, log 36). -/
def Obligations.ReportComparesCounts : Prop :=
  (∀ (s : State) (tag board : Byte) (count : BitVec 16) (b : Bd), s.resetHeld = false → board.toNat = b.val →
    InService (s.board b).state → (s.board b).baseline = none →
    let i := Instr.report tag board count
    let x := s.board b
    let base := count - x.releases
    let u : State := { s.takeOff i with boards := s.boards.set b.val { x with baseline := some base } b.isLt }
    exec i s = .next (u.answer 0x0D tag .accepted
      (1 :: be 2 base.toNat ++ be 2 x.releases.toNat ++ be 2 x.outstanding ++ [0, 0, 0, 0])).driveLines)
  ∧ ∀ (s : State) (tag board : Byte) (count base : BitVec 16) (b : Bd), s.resetHeld = false → board.toNat = b.val →
    InService (s.board b).state → (s.board b).baseline = some base →
    let i := Instr.report tag board count
    let x := s.board b
    let raw : Nat := (count.toNat + 2 ^ 16 - x.releases.toNat + 2 ^ 16 - base.toNat) % 2 ^ 16
    let disc : Int := if raw < 2 ^ 15 then (raw : Int) else (raw : Int) - 2 ^ 16
    let allowance := min 1023 s.groups.guard.fields.xchkTol.toNat + x.outstanding
    let due := allowance < disc.natAbs ∧ (x.state = .live ∨ x.state = .doubtful)
    let u := if due then (s.takeOff i).charge b .xcheck else s.takeOff i
    exec i s = .next (u.answer 0x0D tag .accepted
      (BitVec.ofNat 8 (2 * (decide due).toNat + 4) :: be 2 base.toNat ++ be 2 x.releases.toNat ++ be 2 x.outstanding
        ++ be 2 raw ++ be 2 allowance)).driveLines

/-- R60, R93, R133, R164, R167 to R170: BOARD, DEVICE, GETGROUP and IDENT answer what stands, in these bytes, and change
nothing. -/
def Obligations.StatusRequestsChangeNothing : Prop :=
  (∀ (s : State) (tag x : Byte), s.resetHeld = false →
    (∀ b : Bd, x.toNat = b.val →
      exec (.board tag x) s = .next (answered (.board tag x) s 0x0E tag .status (s.boardStatus b)))
    ∧ (∀ p, s.devicePart x.toNat = some p → exec (.device tag x) s = .next (answered (.device tag x) s 0x0F tag .status p))
    ∧ ((s.devicePart x.toNat).isSome = true ↔ x.toNat ≤ 2)
    ∧ (3 ≤ x.toNat → exec (.device tag x) s = .next (answered (.device tag x) s 0x0F tag .outOfRange [0]))
    ∧ (∀ p, s.groupReport x.toNat = some p →
      exec (.getgroup tag x) s = .next (answered (.getgroup tag x) s 0x11 tag .group p))
    ∧ ((s.groupReport x.toNat).isSome = true ↔ x.toNat ≤ 11)
    ∧ (12 ≤ x.toNat → exec (.getgroup tag x) s = .next (answered (.getgroup tag x) s 0x11 tag .outOfRange [255]))
    ∧ exec (.ident tag) s = .next (answered (.ident tag) s 0x16 tag .accepted
        [0x04, 0x18, Config.siliconRevision, 0x20, 0x00, 32, 48]))
  ∧ (∀ (s : State) (b : Bd),
    let x := s.board b
    let l := s.line b
    let bit (v : Bool) (k : Nat) : Nat := v.toNat * 2 ^ k
    let time (t : Option Time) : List Byte := be 4 (t.getD 0).toNat
    s.boardStatus b =
      [BitVec.ofNat 8 b.val, x.state.byte] ++ be 2 x.score ++ be 3 x.latency ++ be 2 x.outstanding ++ be 2 x.damaged
        ++ be 2 x.releases.toNat ++ be 2 x.charges
        ++ [BitVec.ofNat 8 (bit x.baseline.isSome 0 + bit x.graceEnd.isSome 1 + bit x.stallExpiry.isSome 2
              + bit x.lastProgress.isSome 3 + bit l.lastPulse.isSome 4 + bit x.lostExpiry.isSome 5
              + bit x.verdictTime.isSome 6),
            BitVec.ofNat 8 (bit x.heard 0 + bit x.pending 1)]
        ++ be 2 (x.baseline.getD 0).toNat ++ time x.graceEnd ++ time x.stallExpiry ++ time x.lastProgress
        ++ time l.lastPulse ++ time x.lostExpiry ++ time x.verdictTime)
  ∧ (∀ s : State,
    let bit (v : Bool) (k : Nat) : Nat := v.toNat * 2 ^ k
    let valid (k : Nat) : Nat := bit (s.groups.valids.getD k false) k
    let flags := bit s.clamped 0 + bit s.timebasePending 1 + bit s.sweepRunning 2 + bit s.halted 3 + bit s.tableHighArmed 4
      + bit s.commonCause 5 + bit (!s.attnN) 6 + bit (!s.faultN) 7
    let conditions := bit (allBoards.any fun b => decide ((s.board b).state = .silent)) 0 + bit s.commonCause 1 + bit s.halted 2
      + bit (!(s.groups.valids.all id)) 3 + bit (s.slots.any fun e => e.2.isDamaged) 4
    let phase : Nat := match s.selfTest.phase with | .none => 0 | .waiting => 1 | .memory => 2
    let result : Nat := match s.selfTest.result with | .none => 0 | .pass => 1 | .fail => 2 | .aborted => 3
    let c := s.selfTest.causes
    s.devicePart 0 = some
      ([0] ++ be 4 s.clock.toNat
        ++ [BitVec.ofNat 8 s.prescale, BitVec.ofNat 8 s.divider, BitVec.ofNat 8 s.configuredVpt,
            BitVec.ofNat 8 s.effectiveVpt, BitVec.ofNat 8 flags]
        ++ be 2 s.sweepPosition ++ be 2 s.occupancy ++ be 2 s.unattributed.length
        ++ [BitVec.ofNat 8 s.active, BitVec.ofNat 8 s.doubtful, BitVec.ofNat 8 s.down, BitVec.ofNat 8 s.maxDown,
            BitVec.ofNat 8 s.ccPct]
        ++ be 2 (valid 0 + valid 1 + valid 2 + valid 3 + valid 4 + valid 5 + valid 6 + valid 7 + valid 8 + valid 9
            + valid 10 + valid 11)
        ++ [BitVec.ofNat 8 conditions, s.faultMask] ++ be 2 s.noticeMask.toNat
        ++ [BitVec.ofNat 8 (bit s.selfTest.running 0 + bit s.selfTest.inject 1 + phase * 4 + result * 16),
            BitVec.ofNat 8 (bit c.group 0 + bit c.compare 1 + bit c.memory 2 + bit c.injected 3)]
        ++ be 2 s.selfTest.invalidGroups.toNat ++ be 2 s.selfTest.nA ++ be 2 s.selfTest.nV
        ++ be 2 s.selfTest.memoryFailures))
  ∧ (∀ s : State, ∃ order : List Bd, order.Nodup ∧ (∀ b, b ∈ order ↔ s.cause b ≠ none)
    ∧ order.Pairwise (fun b c => (s.board c).score < (s.board b).score ∨ (s.board c).score = (s.board b).score ∧ b < c)
    ∧ s.devicePart 1 = some ([1, BitVec.ofNat 8 order.length] ++ order.flatMap fun b =>
        [BitVec.ofNat 8 b.val, match s.cause b with | none => 0 | some .common => 1 | some .param => 2 | some .limit => 3]))
  ∧ (∀ s : State,
    let unit (u : Fin 4) : List Byte :=
      let w := s.unit u
      ([if w.enable then 1 else 0, match w.kind with | .key => 0 | .board => 1 | .range => 2] : List Byte)
        ++ be 3 w.value.terminal.toNat ++ be 3 w.value.sequence.toNat ++ be 3 w.mask.terminal.toNat
        ++ be 3 w.mask.sequence.toNat ++ [BitVec.ofNat 8 w.low.val, BitVec.ofNat 8 w.high.val, BitVec.ofNat 8 w.events.toNat]
    let paired := (s.unit 0).kind = .range
    let empty := keyNumber (s.unit 1).value < keyNumber (s.unit 0).value
    s.devicePart 2 =
      some ([2, if paired then (if empty then 3 else 1) else 0] ++ unit 0 ++ unit 1 ++ unit 2 ++ unit 3))
  ∧ (∀ s : State,
    let g := s.groups
    let v (valid : Bool) : Byte := if valid then 1 else 0
    s.groupReport 0 = some ([0, v g.timebase.valid] ++ [g.timebase.fields.pre, g.timebase.fields.div, g.timebase.fields.vpt])
    ∧ (∀ c : Fin 4, s.groupReport (1 + c.val) = some ([BitVec.ofNat 8 (1 + c.val), v (s.profile c).valid]
        ++ be 2 (s.profile c).fields.authFloor.toNat ++ be 2 (s.profile c).fields.authCeil.toNat
        ++ [(s.profile c).fields.k] ++ be 3 (s.profile c).fields.settle.toNat))
    ∧ s.groupReport 5 = some ([5, v g.latency.valid] ++ be 2 g.latency.fields.seedLat.toNat ++ [g.latency.fields.gain])
    ∧ s.groupReport 6 = some ([6, v g.weights.valid] ++ be 2 g.weights.fields.wAuth.toNat
        ++ be 2 g.weights.fields.wSettle.toNat ++ be 2 g.weights.fields.wStall.toNat ++ be 2 g.weights.fields.wLost.toNat
        ++ be 2 g.weights.fields.wRacing.toNat ++ be 2 g.weights.fields.wXcheck.toNat)
    ∧ s.groupReport 7 = some ([7, v g.thresholds.valid] ++ be 2 g.thresholds.fields.alert.toNat
        ++ be 2 g.thresholds.fields.hysteresis.toNat ++ be 2 g.thresholds.fields.verdict.toNat
        ++ [g.thresholds.fields.creditShift])
    ∧ s.groupReport 8 = some ([8, v g.heartbeat.valid] ++ be 2 g.heartbeat.fields.hbMin.toNat
        ++ be 2 g.heartbeat.fields.hbMax.toNat ++ be 3 g.heartbeat.fields.stallLimit.toNat
        ++ [g.heartbeat.fields.grace, g.heartbeat.fields.gdiv])
    ∧ s.groupReport 9 = some ([9, v g.guard.valid] ++ [g.guard.fields.maxDown, g.guard.fields.ccPct]
        ++ be 2 g.guard.fields.xchkTol.toNat)
    ∧ s.groupReport 10 = some ([10, v g.table.valid] ++ be 2 g.table.fields.quota.toNat
        ++ be 2 g.table.fields.highMark.toNat)
    ∧ s.groupReport 11 = some ([11, v g.masks.valid] ++ be 2 g.masks.fields.noticeMask.toNat ++ [g.masks.fields.faultMask]))
  ∧ [BoardState.absent, .warming, .live, .doubtful, .silent, .drained].map BoardState.byte = [0, 1, 2, 3, 4, 5]
  ∧ [OutcomeCode.accepted, .acceptedDoubt, .late, .releasedHeld, .found, .slot, .status, .group, .notice, .none].map
      OutcomeCode.byte = [0x00, 0x01, 0x02, 0x03, 0x04, 0x05, 0x06, 0x07, 0x08, 0x09]
  ∧ [OutcomeCode.halted, .outOfRange, .boardState, .profileInvalid, .duplicate, .overQuota, .full, .notFound, .held,
      .wrongStage, .downLimit, .busy, .frameCheck, .badCode, .badLength].map OutcomeCode.byte
      = [0x10, 0x11, 0x12, 0x13, 0x14, 0x15, 0x16, 0x17, 0x18, 0x19, 0x1A, 0x1B, 0x20, 0x21, 0x22]

/-! ## Evidence, verdicts and the pending set -/

/-- R94, R97: a charge in LIVE or DOUBTFUL raises the score by the kind's effective weight and the charges count by one, makes
a LIVE board at A or above DOUBTFUL, asks for a verdict at V or above when not pending, and latches HEARTBEAT for LOST and
RACING, in that order; in every other state the item leaves no trace. An exit from the common-cause state that the move to
DOUBTFUL finds (CC_PCT disturbed) is reconsidered (R121), before the board's own request: the model's choice (log 33). -/
def Obligations.ChargeSteps : Prop :=
  ∀ (s : State) (b : Bd) (kind : Evidence),
    (¬ Chargeable (s.board b).state → s.charge b kind = s)
    ∧ (Chargeable (s.board b).state →
      let x := s.board b
      let weight : BitVec 16 :=
        match kind with
        | .authOver => s.effWeights.wAuth
        | .settleOver => s.effWeights.wSettle
        | .stall => s.effWeights.wStall
        | .lost => s.effWeights.wLost
        | .racing => s.effWeights.wRacing
        | .xcheck => s.effWeights.wXcheck
      let score := min 4095 (x.score + weight.toNat)
      let crossed := x.state = .live ∧ s.effThresholds.alert.toNat ≤ score
      let raised : State :=
        { s with
          boards := s.boards.set b.val
            { x with
              score := score, charges := min 65535 (x.charges + 1)
              state := if crossed then .doubtful else x.state } b.isLt
          doubtful := if crossed then s.doubtful + 1 else s.doubtful }
      let counted := raised.reevaluateCommon.latchDoubt b (.item kind)
      let reported :=
        if crossed then (if s.commonCause = true ∧ counted.commonCause = false then counted.reconsider else counted) else raised
      let y := reported.board b
      let asked :=
        if y.state = .doubtful ∧ s.effThresholds.verdict.toNat ≤ y.score ∧ y.pending = false then reported.verdictRequest b
        else reported
      s.charge b kind =
        match kind with
        | .lost => asked.latchHeartbeat b true false
        | .racing => asked.latchHeartbeat b false true
        | .authOver => asked
        | .settleOver => asked
        | .stall => asked
        | .xcheck => asked)

/-- R98: a credit takes max(1, floor(S / 2^D)) off the score, takes a pending board below V out of the pending set, and makes
a DOUBTFUL board below A - H LIVE; an exit from the common-cause state is reconsidered. -/
def Obligations.CreditSteps : Prop :=
  ∀ (s : State) (b : Bd),
    let x := s.board b
    let score := x.score - max 1 (x.score / 2 ^ s.effThresholds.creditShift.toNat)
    let leaves := x.pending = true ∧ score < s.effThresholds.verdict.toNat
    let paid : State :=
      { s with
        boards := s.boards.set b.val { x with score := score, pending := if leaves then false else x.pending } b.isLt
        withheld := if leaves then s.withheld.set b.val none b.isLt else s.withheld }
    let live : State :=
      { paid with
        boards := paid.boards.set b.val { paid.board b with state := .live } b.isLt
        doubtful := s.doubtful - 1 }
    let back := live.reevaluateCommon
    s.credit b =
      if x.state = .doubtful ∧ score + s.effThresholds.hysteresis.toNat < s.effThresholds.alert.toNat then
        if s.commonCause = true ∧ back.commonCause = false then back.reconsider else back
      else paid

/-- R119: a verdict request is granted when the common-cause state does not hold, every group is valid and the down count is
below MAX_DOWN; otherwise the first condition that fails is the cause, and the board is pending with WITHHELD latched. -/
def Obligations.VerdictRequestAnswered : Prop :=
  ∀ (s : State) (b : Bd),
    let withheldFor (c : Cause) : State :=
      { s with
        boards := s.boards.set b.val { s.board b with pending := true } b.isLt
        withheld := s.withheld.set b.val (some c) b.isLt
        latches := { s.latches with
          withheld := s.latches.withheld.set b.val (some ((s.latches.withheld[b.val]).getD ⟨s.clock, c⟩)) b.isLt } }
    (s.commonCause = true → s.verdictRequest b = withheldFor .common)
    ∧ (s.commonCause = false → s.groups.valids.all id = false → s.verdictRequest b = withheldFor .param)
    ∧ (s.commonCause = false → s.groups.valids.all id = true → s.maxDown ≤ s.down →
      s.verdictRequest b = withheldFor .limit)
    ∧ (s.commonCause = false → s.groups.valids.all id = true → s.down < s.maxDown →
      s.verdictRequest b = s.grantVerdict b .automatic)

/-- R118: a re-evaluation makes the common-cause state hold exactly while d is 2 or more and d × 100 is at or above
CC_PCT × a, with CC_PCT 0 never; a change either way latches COMMON as ENTRY or EXIT, a repeat setting changed again;
nothing else changes. -/
def Obligations.CommonCauseReevaluated : Prop :=
  ∀ s : State,
    let pct := min 100 s.groups.guard.fields.ccPct.toNat
    let t := s.reevaluateCommon
    (t.commonCause = true ↔ pct ≠ 0 ∧ 2 ≤ s.doubtful ∧ pct * s.active ≤ s.doubtful * 100)
    ∧ (t.commonCause = s.commonCause → t = s)
    ∧ (t.commonCause ≠ s.commonCause →
      t = { s with
        commonCause := t.commonCause
        latches := { s.latches with common := some (match s.latches.common with
          | none => ⟨s.clock, if t.commonCause = true then .entry else .exit, false⟩
          | some c => { c with again := true }) } })

/-- R121: a reconsideration is complete: the pending set is empty or a condition of R119 fails, and then every pending board
has that cause recorded; boards outside the pending set are untouched.
One round grants the pending board with the highest score, the lowest slot among equals, when the conditions hold; when a
condition fails, every pending board stays pending with that cause, WITHHELD is latched for those whose recorded cause was
another one, and nothing else changes. -/
def Obligations.ReconsiderationGrantsAndCompletes : Prop :=
  (∀ s : State,
    let t := s.reconsider
    ((∀ b, t.cause b = none) ∨ ∃ c, t.withholdCause = some c ∧ ∀ b, t.cause b = none ∨ t.cause b = some c)
    ∧ Reconsidered s t)
  ∧ (∀ (s : State) (b : Bd), s.withholdCause = none → s.cause b ≠ none →
    (∀ c, s.cause c ≠ none → (s.board c).score < (s.board b).score
      ∨ ((s.board c).score = (s.board b).score ∧ b ≤ c)) →
    s.reconsider = (s.grantVerdict b .automatic).reconsider)
  ∧ ∀ (s : State) (c : Cause), s.withholdCause = some c →
    let t := s.reconsider
    (∀ b, t.cause b = if s.cause b = none then none else some c)
    ∧ (∀ b : Bd, (t.latches.withheld[b.val]) =
        if s.cause b ≠ none ∧ s.cause b ≠ some c then some ((s.latches.withheld[b.val]).getD ⟨s.clock, c⟩)
        else s.latches.withheld[b.val])
    ∧ { t with withheld := s.withheld, latches := { t.latches with withheld := s.latches.withheld } } = s

/-! ## Handover -/

/-- R127, R128: an accepted TAKE returns the first m = min(n, outstanding) records of the SILENT board's list, oldest first,
offers TAKE for each that reads clean and latches DAMAGE for each that does not, frees their slots to the tail of the free
list in that order, and drains the board whose list it leaves empty; it changes no other board, list or record. The move to
DRAINED latches no notice (R123). The premise on the table is TableKept's. -/
def Obligations.TakeHandsOver : Prop :=
  ∀ (s : State) (tag board n : Byte) (b : Bd), s.resetHeld = false → s.halted = false → board.toNat = b.val →
    1 ≤ n.toNat → n.toNat ≤ 8 → (s.board b).state = .silent → s.TableWf →
    let i := Instr.take tag board n
    let x := s.board b
    let m := min n.toNat x.outstanding
    let batch := (s.list b).take m
    let state := if m = x.outstanding then BoardState.drained else BoardState.silent
    ∃ t, exec i s = .next t
      ∧ Answers i s t 0x0B tag .accepted
          ([BitVec.ofNat 8 b.val, BitVec.ofNat 8 m, state.byte] ++ be 2 (x.outstanding - m) ++ be 4 (x.verdictTime.getD 0).toNat
            ++ batch.flatMap s.takenEntry)
      ∧ t.list b = (s.list b).drop m ∧ (∀ c, c ≠ b → t.list c = s.list c)
      ∧ t.free = s.free ++ batch ∧ t.occupancy = s.occupancy - m
      ∧ t.tableHighArmed = (if s.occupancy - m + 256 < s.highMark then true else s.tableHighArmed)
      ∧ (∀ k, t.slot k = if k ∈ batch then none else s.slot k)
      ∧ (∀ key k, t.lookupKey key = some k ↔ s.lookupKey key = some k ∧ k ∉ batch)
      ∧ t.board b =
          { x with
            state := state, outstanding := x.outstanding - m
            damaged := (((s.list b).drop m).filter s.isDamagedSlot).length
            stallExpiry := if m = x.outstanding then none else x.stallExpiry }
      ∧ (∀ c, c ≠ b → t.board c = s.board c)
      ∧ t.latches = (batch.foldl (fun u k =>
          match s.slot k with
          | some (.record _ _ p parity) =>
            if readsClean p parity = true then u.offer .take k b p.key p.watchSet else u.latchDamage k (some b)
          | some (.damaged _ _ _) | some .unattributed => u
          | none => u) s).latches
      ∧ { t.withLinkOf s with
          slots := s.slots, index := s.index, free := s.free, lists := s.lists, occupancy := s.occupancy
          tableHighArmed := s.tableHighArmed, boards := s.boards, latches := s.latches } = s

/-- R129: PURGE of a board frees every DAMAGED record of its list, in list order, and leaves the others in their places;
PURGE with 255 frees every unattributed damaged slot, ascending. -/
def Obligations.PurgeFreesDamaged : Prop :=
  ∀ (s : State) (tag : Byte), s.resetHeld = false → s.halted = false → s.TableWf →
    let armed (gone : List Nat) : Bool :=
      if gone ≠ [] ∧ s.occupancy - gone.length + 256 < s.highMark then true else s.tableHighArmed
    (∀ (board : Byte) (b : Bd), board.toNat = b.val →
      let i := Instr.purge tag board
      let x := s.board b
      let gone := (s.list b).filter s.isDamagedSlot
      let kept := (s.list b).filter fun n => !s.isDamagedSlot n
      let state := if x.state = .silent ∧ kept = [] then BoardState.drained else x.state
      ∃ t, exec i s = .next t
        ∧ Answers i s t 0x0C tag .accepted (be 2 gone.length ++ [state.byte] ++ be 2 kept.length ++ [0, 0])
        ∧ t.list b = kept ∧ (∀ c, c ≠ b → t.list c = s.list c) ∧ t.free = s.free ++ gone
        ∧ t.occupancy = s.occupancy - gone.length ∧ t.tableHighArmed = armed gone
        ∧ (∀ k, t.slot k = if k ∈ gone then none else s.slot k)
        ∧ t.board b =
            { x with
              state := state, outstanding := kept.length, damaged := 0
              stallExpiry := if gone ≠ [] ∧ kept = [] then none else x.stallExpiry }
        ∧ (∀ c, c ≠ b → t.board c = s.board c)
        ∧ { t.withLinkOf s with
            slots := s.slots, free := s.free, lists := s.lists, occupancy := s.occupancy
            tableHighArmed := s.tableHighArmed, boards := s.boards } = s)
    ∧ (let i := Instr.purge tag 255
      let gone := s.unattributed
      ∃ t, exec i s = .next t
        ∧ Answers i s t 0x0C tag .accepted (be 2 gone.length ++ [255, 0, 0, 0, 0])
        ∧ t.unattributed = [] ∧ t.free = s.free ++ gone ∧ t.occupancy = s.occupancy - gone.length
        ∧ t.tableHighArmed = armed gone
        ∧ (∀ k, t.slot k = if k ∈ gone then none else s.slot k)
        ∧ { t.withLinkOf s with
            slots := s.slots, free := s.free, unattributed := s.unattributed, occupancy := s.occupancy
            tableHighArmed := s.tableHighArmed } = s)

/-- R126, R129, R152: the refusals of TAKE and PURGE in the order of their checks, and a custody list that fails a structure
test: a slot among those TAKE will remove, or anywhere in the list PURGE walks, that is not linked to the board, and a list
that would be left empty when its length is not the outstanding count. The device then enters HALTED and nothing is retired.
How far the walks go where the list and the count disagree is the model's choice (log 23). -/
def Obligations.HandoverRefused : Prop :=
  ∀ (s : State) (tag board n : Byte), s.resetHeld = false →
    let i := Instr.take tag board n
    let j := Instr.purge tag board
    (s.halted = true →
      exec i s = .next (answered i s 0x0B tag .halted []) ∧ exec j s = .next (answered j s 0x0C tag .halted []))
    ∧ (s.halted = false → 32 ≤ board.toNat → exec i s = .next (answered i s 0x0B tag .outOfRange [0]))
    ∧ (s.halted = false → 32 ≤ board.toNat → board ≠ 255 → exec j s = .next (answered j s 0x0C tag .outOfRange [0]))
    ∧ ∀ b : Bd, s.halted = false → board.toNat = b.val →
      let halt (x : Instr) (code : Byte) : State :=
        (((s.takeOff x).enterHalted (.custodyList b)).answer code tag .halted []).driveLines
      let m := min n.toNat (s.board b).outstanding
      (n.toNat = 0 ∨ 8 < n.toNat → exec i s = .next (answered i s 0x0B tag .outOfRange [1]))
      ∧ (1 ≤ n.toNat → n.toNat ≤ 8 → (s.board b).state ≠ .silent →
        exec i s = .next (answered i s 0x0B tag .boardState ((s.board b).state.byte :: be 2 (s.board b).outstanding)))
      ∧ (1 ≤ n.toNat → n.toNat ≤ 8 → (s.board b).state = .silent →
        (∃ k ∈ (s.list b).take m, s.linkedTo b k = false)
          ∨ (s.list b).length ≤ m ∧ (s.list b).length ≠ (s.board b).outstanding →
        exec i s = .next (halt i 0x0B))
      ∧ ((∃ k ∈ s.list b, s.linkedTo b k = false)
          ∨ s.list b ≠ [] ∧ (∀ k ∈ s.list b, s.isDamagedSlot k = true) ∧ (s.list b).length ≠ (s.board b).outstanding →
        exec j s = .next (halt j 0x0C))

/-! ## Parameter groups, watch units, notices, self-test, resets -/

/-- R47, R61, R63, R90: SETGROUP of TIMEBASE, a profile, LATENCY or HEARTBEAT with every field in range writes the group,
recomputes its check code, marks it valid (TIMEBASE: sets the pending flag) and, when every group is then valid, reconsiders
the pending set (also when the group was valid before: the model's reading, log 20).
R17, R19, R95, R148: SETGROUP of WEIGHTS, TABLE or MASKS with every field in range also takes the effective weights, the
table-high flag from the new mark, or the effective masks, by which the lines are driven anew.
R131: GUARD with every field in range and MAX_DOWN not below the down count is written; the common-cause state is
re-evaluated with the new CC_PCT, and the pending set is reconsidered before the answer.
A walk that fails in a grant the reconsideration makes leaves the answer (the model's choice, log 36). -/
def Obligations.GroupsWritten : Prop :=
  (∀ (s : State) (tag : Byte), s.resetHeld = false →
    let done (u : State) (number : Byte) : State :=
      ((if u.groups.valids.all id = true then u.reconsider else u).answer 0x10 tag .accepted [number, 1]).driveLines
    (∀ f : Timebase, f.pre.toNat ≤ 3 → f.div.toNat ≤ 3 → f.vpt.toNat ≤ 5 →
      exec (.setgroupTimebase tag f) s = .next (done
        { s.takeOff (.setgroupTimebase tag f) with
          groups := { s.groups with timebase := ⟨f, f, true⟩ }, timebasePending := true } 0))
    ∧ (∀ (c : Fin 4) (f : Profile), 1 ≤ f.authFloor.toNat → f.authFloor.toNat ≤ f.authCeil.toNat → 4 ≤ f.k.toNat →
      1 ≤ f.settle.toNat →
      exec (.setgroupProfile tag c f) s = .next (done
        { s.takeOff (.setgroupProfile tag c f) with
          groups := { s.groups with profiles := s.groups.profiles.set c.val ⟨f, f, true⟩ c.isLt } }
        (BitVec.ofNat 8 (1 + c.val))))
    ∧ (∀ f : Latency, 1 ≤ f.seedLat.toNat → 1 ≤ f.gain.toNat → f.gain.toNat ≤ 6 →
      exec (.setgroupLatency tag f) s = .next (done
        { s.takeOff (.setgroupLatency tag f) with groups := { s.groups with latency := ⟨f, f, true⟩ } } 5))
    ∧ ∀ f : Heartbeat, 1 ≤ f.hbMin.toNat → f.hbMin.toNat < f.hbMax.toNat → 1 ≤ f.stallLimit.toNat → 1 ≤ f.grace.toNat →
      f.gdiv.toNat ≤ 3 →
      exec (.setgroupHeartbeat tag f) s = .next (done
        { s.takeOff (.setgroupHeartbeat tag f) with groups := { s.groups with heartbeat := ⟨f, f, true⟩ } } 8))
  ∧ (∀ (s : State) (tag : Byte), s.resetHeld = false →
    let done (u : State) (number : Byte) : State :=
      ((if u.groups.valids.all id = true then u.reconsider else u).answer 0x10 tag .accepted [number, 1]).driveLines
    (∀ f : Weights, f.wAuth.toNat ≤ 1023 → f.wSettle.toNat ≤ 1023 → f.wStall.toNat ≤ 1023 → f.wLost.toNat ≤ 1023 →
      f.wRacing.toNat ≤ 1023 → f.wXcheck.toNat ≤ 1023 → f ≠ ⟨0, 0, 0, 0, 0, 0⟩ →
      exec (.setgroupWeights tag f) s = .next (done
        { s.takeOff (.setgroupWeights tag f) with
          groups := { s.groups with weights := ⟨f, f, true⟩ }, effWeights := f } 6))
    ∧ (∀ f : TableSettings, 1 ≤ f.quota.toNat → f.quota.toNat ≤ 8192 → 257 ≤ f.highMark.toNat → f.highMark.toNat ≤ 8192 →
      exec (.setgroupTable tag f) s = .next (done
        { s.takeOff (.setgroupTable tag f) with
          groups := { s.groups with table := ⟨f, f, true⟩ }
          tableHighArmed := decide (s.occupancy < f.highMark.toNat) } 10))
    ∧ ∀ f : Masks, f.noticeMask.toNat ≤ 4095 → f.faultMask.toNat ≤ 31 →
      exec (.setgroupMasks tag f) s = .next (done
        { s.takeOff (.setgroupMasks tag f) with
          groups := { s.groups with masks := ⟨f, f, true⟩ }
          noticeMask := f.noticeMask, faultMask := f.faultMask } 11))
  ∧ ∀ (s : State) (tag : Byte) (f : Guard), s.resetHeld = false → 1 ≤ f.maxDown.toNat → f.maxDown.toNat ≤ 16 →
    f.ccPct.toNat ≤ 100 → f.xchkTol.toNat ≤ 1023 → s.down ≤ f.maxDown.toNat →
    let i := Instr.setgroupGuard tag f
    let u : State := { s.takeOff i with groups := { s.groups with guard := ⟨f, f, true⟩ } }
    exec i s = .next (u.reevaluateCommon.reconsider.answer 0x10 tag .accepted [9, 1]).driveLines

/-- R100: THRESHOLDS in range are written and taken as the effective thresholds, every board is re-evaluated in slot order,
and the pending set is then reconsidered when every group is valid.
R100: what the re-evaluation of one board does, case by case; a board in another state, or that no case names, is
unchanged. That an exit on the way reconsiders at that board, before the later ones (log 19) and before its own verdict
request (log 33), is the model's choice; so is that a walk that fails in a grant made on the way leaves the answer (log 36). -/
def Obligations.ThresholdsReevaluateBoards : Prop :=
  (∀ (s : State) (tag : Byte) (f : Thresholds), s.resetHeld = false → ThresholdsLegal f →
    let i := Instr.setgroupThresholds tag f
    let u : State := { s.takeOff i with groups := { s.groups with thresholds := ⟨f, f, true⟩ }, effThresholds := f }
    let v := allBoards.foldl State.reevaluateBoard u
    exec i s = .next ((if v.groups.valids.all id = true then v.reconsider else v).answer 0x10 tag .accepted [7, 1]).driveLines)
  ∧ ∀ (s : State) (b : Bd), ThresholdsLegal s.effThresholds →
    let x := s.board b
    let a := s.effThresholds.alert.toNat
    let h := s.effThresholds.hysteresis.toNat
    let v := s.effThresholds.verdict.toNat
    (¬ Chargeable x.state → s.reevaluateBoard b = s)
    ∧ (x.state = .live → x.score < a → s.reevaluateBoard b = s)
    ∧ (x.state = .live → a ≤ x.score →
      let u : State :=
        { s with boards := s.boards.set b.val { x with state := .doubtful } b.isLt, doubtful := s.doubtful + 1 }
      let counted := u.reevaluateCommon.latchDoubt b .thresholds
      let w := if s.commonCause = true ∧ counted.commonCause = false then counted.reconsider else counted
      let y := w.board b
      s.reevaluateBoard b = if y.state = .doubtful ∧ v ≤ y.score ∧ y.pending = false then w.verdictRequest b else w)
    ∧ (x.state = .doubtful → x.pending = true → v ≤ x.score → s.reevaluateBoard b = s)
    ∧ (x.state = .doubtful → x.pending = false → v ≤ x.score → s.reevaluateBoard b = s.verdictRequest b)
    ∧ (x.state = .doubtful → x.score < v →
      let u : State :=
        { s with
          boards := s.boards.set b.val { x with pending := false } b.isLt
          withheld := if x.pending = true then s.withheld.set b.val none b.isLt else s.withheld }
      let w : State :=
        { u with
          boards := s.boards.set b.val { x with pending := false, state := .live } b.isLt, doubtful := s.doubtful - 1 }
      let back := w.reevaluateCommon
      s.reevaluateBoard b =
        if x.score + h < a then (if s.commonCause = true ∧ back.commonCause = false then back.reconsider else back) else u)

/-- R19, R47, R61, R63, R90, R95, R100, R131, R148: a SETGROUP with a field out of its range is answered OUT_OF_RANGE with
the index of the first such field, then a failed combination with its index, and changes nothing. -/
def Obligations.SetgroupRefused : Prop :=
  ∀ (s : State) (tag : Byte), s.resetHeld = false →
    let refused (i : Instr) (field : Byte) : Prop := exec i s = .next (answered i s 0x10 tag .outOfRange [field])
    (∀ f : Timebase,
      (3 < f.pre.toNat → refused (.setgroupTimebase tag f) 0)
      ∧ (f.pre.toNat ≤ 3 → 3 < f.div.toNat → refused (.setgroupTimebase tag f) 1)
      ∧ (f.pre.toNat ≤ 3 → f.div.toNat ≤ 3 → 5 < f.vpt.toNat → refused (.setgroupTimebase tag f) 2))
    ∧ (∀ (c : Fin 4) (f : Profile),
      (f.authFloor = 0 → refused (.setgroupProfile tag c f) 0)
      ∧ (f.authFloor ≠ 0 → f.authCeil = 0 → refused (.setgroupProfile tag c f) 1)
      ∧ (f.authFloor ≠ 0 → f.authCeil ≠ 0 → f.k.toNat < 4 → refused (.setgroupProfile tag c f) 2)
      ∧ (f.authFloor ≠ 0 → f.authCeil ≠ 0 → 4 ≤ f.k.toNat → f.settle = 0 → refused (.setgroupProfile tag c f) 3)
      ∧ (f.authCeil.toNat < f.authFloor.toNat → f.authCeil ≠ 0 → 4 ≤ f.k.toNat → f.settle ≠ 0 →
        refused (.setgroupProfile tag c f) 1))
    ∧ (∀ f : Latency,
      (f.seedLat = 0 → refused (.setgroupLatency tag f) 0)
      ∧ (f.seedLat ≠ 0 → f.gain = 0 ∨ 6 < f.gain.toNat → refused (.setgroupLatency tag f) 1))
    ∧ (∀ f : Weights,
      (1023 < f.wAuth.toNat → refused (.setgroupWeights tag f) 0)
      ∧ (f = ⟨0, 0, 0, 0, 0, 0⟩ → refused (.setgroupWeights tag f) 0)
      ∧ (f.wAuth.toNat ≤ 1023 → 1023 < f.wSettle.toNat → refused (.setgroupWeights tag f) 1)
      ∧ (f.wAuth.toNat ≤ 1023 → f.wSettle.toNat ≤ 1023 → 1023 < f.wStall.toNat → refused (.setgroupWeights tag f) 2)
      ∧ (f.wAuth.toNat ≤ 1023 → f.wSettle.toNat ≤ 1023 → f.wStall.toNat ≤ 1023 → 1023 < f.wLost.toNat →
        refused (.setgroupWeights tag f) 3)
      ∧ (f.wAuth.toNat ≤ 1023 → f.wSettle.toNat ≤ 1023 → f.wStall.toNat ≤ 1023 → f.wLost.toNat ≤ 1023 →
        1023 < f.wRacing.toNat → refused (.setgroupWeights tag f) 4)
      ∧ (f.wAuth.toNat ≤ 1023 → f.wSettle.toNat ≤ 1023 → f.wStall.toNat ≤ 1023 → f.wLost.toNat ≤ 1023 →
        f.wRacing.toNat ≤ 1023 → 1023 < f.wXcheck.toNat → refused (.setgroupWeights tag f) 5))
    ∧ (∀ f : Thresholds,
      (f.alert.toNat < 2 ∨ 4094 < f.alert.toNat → refused (.setgroupThresholds tag f) 0)
      ∧ (2 ≤ f.alert.toNat → f.alert.toNat ≤ 4094 → f.hysteresis = 0 ∨ 4093 < f.hysteresis.toNat →
        refused (.setgroupThresholds tag f) 1)
      ∧ (2 ≤ f.alert.toNat → f.alert.toNat ≤ 4094 → 1 ≤ f.hysteresis.toNat → f.hysteresis.toNat ≤ 4093 →
        (f.verdict.toNat < 3 ∨ 4095 < f.verdict.toNat → refused (.setgroupThresholds tag f) 2)
        ∧ (3 ≤ f.verdict.toNat → f.verdict.toNat ≤ 4095 → f.creditShift = 0 ∨ 8 < f.creditShift.toNat →
          refused (.setgroupThresholds tag f) 3))
      ∧ (2 ≤ f.alert.toNat → f.alert.toNat ≤ f.hysteresis.toNat → f.hysteresis.toNat ≤ 4093 → 3 ≤ f.verdict.toNat →
        f.verdict.toNat ≤ 4095 → 1 ≤ f.creditShift.toNat → f.creditShift.toNat ≤ 8 → refused (.setgroupThresholds tag f) 1)
      ∧ (f.alert.toNat ≤ 4094 → 1 ≤ f.hysteresis.toNat → f.hysteresis.toNat < f.alert.toNat → 3 ≤ f.verdict.toNat →
        f.verdict.toNat ≤ f.alert.toNat → 1 ≤ f.creditShift.toNat → f.creditShift.toNat ≤ 8 →
        refused (.setgroupThresholds tag f) 2))
    ∧ (∀ f : Heartbeat,
      (f.hbMin = 0 → refused (.setgroupHeartbeat tag f) 0)
      ∧ (f.hbMin ≠ 0 → f.hbMax = 0 → refused (.setgroupHeartbeat tag f) 1)
      ∧ (f.hbMin ≠ 0 → f.hbMax ≠ 0 → f.stallLimit = 0 → refused (.setgroupHeartbeat tag f) 2)
      ∧ (f.hbMin ≠ 0 → f.hbMax ≠ 0 → f.stallLimit ≠ 0 → f.grace = 0 → refused (.setgroupHeartbeat tag f) 3)
      ∧ (f.hbMin ≠ 0 → f.hbMax ≠ 0 → f.stallLimit ≠ 0 → f.grace ≠ 0 → 3 < f.gdiv.toNat →
        refused (.setgroupHeartbeat tag f) 4)
      ∧ (1 ≤ f.hbMax.toNat → f.hbMax.toNat ≤ f.hbMin.toNat → f.stallLimit ≠ 0 → f.grace ≠ 0 → f.gdiv.toNat ≤ 3 →
        refused (.setgroupHeartbeat tag f) 1))
    ∧ (∀ f : Guard,
      (f.maxDown = 0 ∨ 16 < f.maxDown.toNat → refused (.setgroupGuard tag f) 0)
      ∧ (1 ≤ f.maxDown.toNat → f.maxDown.toNat ≤ 16 → 100 < f.ccPct.toNat → refused (.setgroupGuard tag f) 1)
      ∧ (1 ≤ f.maxDown.toNat → f.maxDown.toNat ≤ 16 → f.ccPct.toNat ≤ 100 → 1023 < f.xchkTol.toNat →
        refused (.setgroupGuard tag f) 2)
      ∧ (1 ≤ f.maxDown.toNat → f.maxDown.toNat ≤ 16 → f.ccPct.toNat ≤ 100 → f.xchkTol.toNat ≤ 1023 →
        f.maxDown.toNat < s.down → refused (.setgroupGuard tag f) 0))
    ∧ (∀ f : TableSettings,
      (f.quota = 0 ∨ 8192 < f.quota.toNat → refused (.setgroupTable tag f) 0)
      ∧ (1 ≤ f.quota.toNat → f.quota.toNat ≤ 8192 → f.highMark.toNat < 257 ∨ 8192 < f.highMark.toNat →
        refused (.setgroupTable tag f) 1))
    ∧ ∀ f : Masks,
      (4095 < f.noticeMask.toNat → refused (.setgroupMasks tag f) 0)
      ∧ (f.noticeMask.toNat ≤ 4095 → 31 < f.faultMask.toNat → refused (.setgroupMasks tag f) 1)

/-- R135: an accepted SETWATCH writes the unit whole and answers its settings and the pair byte as they then stand; its
refusals name the first failing field and leave the unit as it was. -/
def Obligations.WatchUnitWritten : Prop :=
  ∀ (s : State) (tag unit : Byte) (w : WatchSettings), s.resetHeld = false →
    let i := Instr.setwatch tag unit w
    (4 ≤ unit.toNat → exec i s = .next (answered i s 0x12 tag .outOfRange [0]))
    ∧ ∀ u : Fin 4, unit.toNat = u.val →
      let badKind := 2 < w.kind.toNat ∨ w.kind = 2 ∧ u ≠ 0
      (badKind → exec i s = .next (answered i s 0x12 tag .outOfRange [2]))
      ∧ (¬ badKind → 32 ≤ w.low.toNat → exec i s = .next (answered i s 0x12 tag .outOfRange [5]))
      ∧ (¬ badKind → w.low.toNat < 32 → 32 ≤ w.high.toNat → exec i s = .next (answered i s 0x12 tag .outOfRange [6]))
      ∧ (¬ badKind → w.low.toNat < 32 → w.high.toNat < w.low.toNat →
        exec i s = .next (answered i s 0x12 tag .outOfRange [6]))
      ∧ ∀ low high : Bd, ¬ badKind → w.low.toNat = low.val → w.high.toNat = high.val → low ≤ high →
        let stored : WatchUnit :=
          { enable := decide (w.enable ≠ 0)
            kind := if w.kind = 0 then .key else if w.kind = 1 then .board else .range
            value := w.value, mask := w.mask, low := low, high := high, events := w.events.truncate 6 }
        let t : State := { s.takeOff i with units := s.units.set u.val stored u.isLt }
        let paired := decide ((t.unit 0).kind = .range)
        let empty := decide (keyNumber (t.unit 1).value < keyNumber (t.unit 0).value)
        exec i s = .next (t.answer 0x12 tag .accepted
          (unit :: stored.bytes ++ [BitVec.ofNat 8 (paired.toNat + 2 * (paired && empty).toNat)])).driveLines

/-- R144, R145: NOTICE answers NONE when no latch is set, and otherwise returns and clears the set latch of the lowest
priority number, the lowest board slot or unit within its kind, masks playing no part.
R143, R168: the bytes of the notice of each kind: its priority number, its board or unit, the set time, the number of latches
still set, the content as latched and the snapshot as the state then stands. -/
def Obligations.NoticeFetchesFirstLatch : Prop :=
  (∀ (s : State) (tag : Byte), s.resetHeld = false →
    let i := Instr.notice tag
    ((∀ r, s.latches.isSet r = false) → exec i s = .next (answered i s 0x13 tag .none [0]))
    ∧ ∀ r, s.latches.isSet r = true →
      (∀ q, s.latches.isSet q = true → r.priority < q.priority ∨ (r.priority = q.priority ∧ r.place.toNat ≤ q.place.toNat)) →
      exec i s = .next
        (({ s.takeOff i with latches := s.latches.cleared r }).answer 0x13 tag .notice ((s.takeOff i).noticePayload r)).driveLines
      ∧ ∀ q, (s.latches.cleared r).isSet q = (s.latches.isSet q && decide (q ≠ r)))
  ∧ ∀ s : State,
    let l := s.latches
    let bit (v : Bool) (k : Nat) : Nat := v.toNat * 2 ^ k
    let head (r : LatchRef) (kind place : Byte) (time : Time) : List Byte :=
      [kind, place] ++ be 4 time.toNat
        ++ [BitVec.ofNat 8 (latchOrder.filter fun q => l.isSet q && decide (q ≠ r)).length]
    let flag (v : Bool) : Byte := if v then 1 else 0
    let causeOf (b : Bd) : Byte :=
      match s.cause b with
      | none => 0 | some .common => 1 | some .param => 2 | some .limit => 3
    let snapshot (b : Bd) : List Byte :=
      let x := s.board b
      [x.state.byte] ++ be 2 x.score ++ [flag x.pending, causeOf b]
        ++ (if x.state = .silent ∨ x.state = .drained then be 4 (x.verdictTime.getD 0).toNat ++ be 2 x.outstanding
            else [0, 0, 0, 0, 0, 0])
    (∀ x, l.halted = some x →
      s.noticePayload .halted = head .halted 1 255 x.time
        ++ (match x.what with | .keyIndex => ([0, 255] : List Byte) | .custodyList b => [1, BitVec.ofNat 8 b.val])
        ++ [flag s.halted] ++ be 2 s.sweepPosition)
    ∧ (∀ x, l.paramFault = some x →
      s.noticePayload .paramFault = head .paramFault 2 255 x.time ++ be 2 x.groups.toNat ++ be 2 s.invalidSet.toNat)
    ∧ (∀ k, k < 16 → s.invalidSet.getLsbD k = (decide (k < 12) && !(s.groups.valids.getD k false)))
    ∧ (∀ (b : Bd) x, (l.verdict[b.val]) = some x →
      s.noticePayload (.verdict b) = head (.verdict b) 3 (BitVec.ofNat 8 b.val) x.time
        ++ ([match x.path with | .automatic => 0 | .declared => 1] : List Byte) ++ snapshot b)
    ∧ (∀ x, l.common = some x →
      s.noticePayload .common = head .common 4 255 x.time
        ++ ([match x.change with | .entry => 0 | .exit => 1, flag x.again] : List Byte)
        ++ [flag s.commonCause, BitVec.ofNat 8 s.active, BitVec.ofNat 8 s.doubtful])
    ∧ (∀ (b : Bd) x, (l.withheld[b.val]) = some x →
      s.noticePayload (.withheld b) = head (.withheld b) 5 (BitVec.ofNat 8 b.val) x.time
        ++ ([match x.cause with | .common => 1 | .param => 2 | .limit => 3] : List Byte) ++ snapshot b)
    ∧ (∀ (b : Bd) x, (l.doubt[b.val]) = some x →
      s.noticePayload (.doubt b) = head (.doubt b) 6 (BitVec.ofNat 8 b.val) x.time
        ++ ([match x.item with
            | .item .authOver => 0 | .item .settleOver => 1 | .item .stall => 2 | .item .lost => 3 | .item .racing => 4
            | .item .xcheck => 5 | .thresholds => 6] : List Byte) ++ snapshot b)
    ∧ (∀ (b : Bd) x, (l.heartbeat[b.val]) = some x →
      s.noticePayload (.heartbeat b) = head (.heartbeat b) 7 (BitVec.ofNat 8 b.val) x.time
        ++ [BitVec.ofNat 8 (bit x.lost 0 + bit x.racing 1)] ++ snapshot b)
    ∧ (∀ x, l.damage = some x →
      s.noticePayload .damage = head .damage 8 255 x.time ++ be 2 x.slot
        ++ ([match x.board with | none => 255 | some b => BitVec.ofNat 8 b.val, BitVec.ofNat 8 x.count] : List Byte)
        ++ be 2 (s.slots.filter fun e => e.2.isDamaged).length)
    ∧ (∀ x, l.tableHigh = some x →
      s.noticePayload .tableHigh = head .tableHigh 9 255 x.time ++ be 2 x.occupancy ++ be 2 s.occupancy ++ be 2 s.highMark)
    ∧ (∀ x, l.testDone = some x →
      s.noticePayload .testDone = head .testDone 10 255 x.time
        ++ ([match x.result with | .none => 0 | .pass => 1 | .fail => 2 | .aborted => 3,
            BitVec.ofNat 8 (bit x.causes.group 0 + bit x.causes.compare 1 + bit x.causes.memory 2
              + bit x.causes.injected 3)] : List Byte)
        ++ [flag s.selfTest.running])
    ∧ (∀ (u : Fin 4) x, (l.watch[u.val]) = some x →
      s.noticePayload (.watch u) = head (.watch u) 11 (BitVec.ofNat 8 u.val) x.time
        ++ ([match x.event with
            | .lodge => 0 | .advance => 1 | .overdue => 2 | .release => 3 | .hold => 4 | .take => 5] : List Byte)
        ++ be 2 x.slot ++ [BitVec.ofNat 8 x.board.val] ++ be 3 x.key.terminal.toNat ++ be 3 x.key.sequence.toNat
        ++ [flag x.overrun]
        ++ ([match s.slot x.slot with
            | none => 0 | some (.record .lodged _ _ _) => 1 | some (.record .decided _ _ _) => 2
            | some (.damaged _ _ _) | some .unattributed => 3] : List Byte))
    ∧ ∀ x, l.link = some x →
      s.noticePayload .link = head .link 12 255 x.time ++ [BitVec.ofNat 8 x.count] ++ [BitVec.ofNat 8 s.buffer.length]

/-- R142, R143: every kind but WATCH is set with the clock and its content, and absorbs a repeat: the set time stays; the
content stays (HALTED, VERDICT, WITHHELD, DOUBT, TABLE_HIGH), grows (PARAM_FAULT, COMMON, HEARTBEAT, DAMAGE, LINK) or is
replaced (TEST_DONE), and nothing but the one latch changes. -/
def Obligations.LatchesAbsorbRepeats : Prop :=
  ∀ (s : State) (b : Bd) (l r : Bool) (n : Nat) (d : Option Bd) (g : BitVec 16) (res : TestResult) (c : TestCauses)
    (item : DoubtItem) (path : VerdictPath) (cause : Cause) (what : Structure) (change : CommonChange),
    (s.latchDoubt b item = { s with latches := { s.latches with
      doubt := s.latches.doubt.set b.val (some (match s.latches.doubt[b.val] with
        | none => ⟨s.clock, item⟩
        | some x => x)) b.isLt } })
    ∧ (s.latchVerdict b path = { s with latches := { s.latches with
      verdict := s.latches.verdict.set b.val (some (match s.latches.verdict[b.val] with
        | none => ⟨s.clock, path⟩
        | some x => x)) b.isLt } })
    ∧ (s.latchWithheld b cause = { s with latches := { s.latches with
      withheld := s.latches.withheld.set b.val (some (match s.latches.withheld[b.val] with
        | none => ⟨s.clock, cause⟩
        | some x => x)) b.isLt } })
    ∧ (s.latchHalted what = { s with latches := { s.latches with
      halted := some (match s.latches.halted with
        | none => ⟨s.clock, what⟩
        | some x => x) } })
    ∧ (s.latchTableHigh = { s with latches := { s.latches with
      tableHigh := some (match s.latches.tableHigh with
        | none => ⟨s.clock, s.occupancy⟩
        | some x => x) } })
    ∧ (s.latchCommon change = { s with latches := { s.latches with
      common := some (match s.latches.common with
        | none => ⟨s.clock, change, false⟩
        | some x => ⟨x.time, x.change, true⟩) } })
    ∧ (s.latchLink = { s with latches := { s.latches with
      link := some (match s.latches.link with
        | none => ⟨s.clock, 1⟩
        | some x => ⟨x.time, min 255 (x.count + 1)⟩) } })
    ∧ (s.latchHeartbeat b l r = { s with latches := { s.latches with
      heartbeat := s.latches.heartbeat.set b.val (some (match s.latches.heartbeat[b.val] with
        | none => ⟨s.clock, l, r⟩
        | some h => ⟨h.time, h.lost || l, h.racing || r⟩)) b.isLt } })
    ∧ (s.latchDamage n d = { s with latches := { s.latches with
      damage := some (match s.latches.damage with
        | none => ⟨s.clock, n, d, 1⟩
        | some x => ⟨x.time, x.slot, x.board, min 255 (x.count + 1)⟩) } })
    ∧ (s.latchParamFault g = { s with latches := { s.latches with
      paramFault := some (match s.latches.paramFault with
        | none => ⟨s.clock, g⟩
        | some x => ⟨x.time, x.groups ||| g⟩) } })
    ∧ (s.latchTestDone res c = { s with latches := { s.latches with
      testDone := some (match s.latches.testDone with
        | none => ⟨s.clock, res, c⟩
        | some x => ⟨x.time, res, c⟩) } })

/-- R156, R157: TEST verifies every group, runs the compare phase on the test record and waits for a pass. With legal
effective settings n_A is ceil(A / w) and n_V is ceil(V / w), COMPARE is not recorded, and INJECTED is exactly when inject
is yes.
That the test record keeps its charges count after the phase is the model's reading (log 29).
R156: TEST's checks in order; a refusal changes nothing, the result of the last test included. w is the largest of the six
effective weights, which are not all 0 (R95). -/
def Obligations.SelfTestRequested : Prop :=
  (∀ (s : State) (tag inject : Byte), s.resetHeld = false → s.halted = false → inject.toNat ≤ 1 →
    s.selfTest.running = false → ThresholdsLegal s.effThresholds →
    s.effWeights ≠ ⟨0, 0, 0, 0, 0, 0⟩ →
    let i := Instr.test tag inject
    let f := s.effWeights
    let w := max (max (max f.wAuth.toNat f.wSettle.toNat) (max f.wStall.toNat f.wLost.toNat))
      (max f.wRacing.toNat f.wXcheck.toNat)
    let nA := (s.effThresholds.alert.toNat + w - 1) / w
    let nV := (s.effThresholds.verdict.toNat + w - 1) / w
    let v := (s.takeOff i).verifyGroups
    let u : State :=
      { v with
        testRecord := { state := .absent, score := 0, charges := nV, pending := false }
        selfTest :=
          { running := true, phase := .waiting, result := .none
            causes := ⟨!(v.groups.valids.all id), false, false, decide (inject = 1)⟩, inject := decide (inject = 1)
            invalidGroups := v.invalidSet, nA := nA, nV := nV, memoryFailures := 0 } }
    exec i s = .next (u.answer 0x14 tag .accepted [1]).driveLines)
  ∧ ∀ (s : State) (tag inject : Byte), s.resetHeld = false →
    let i := Instr.test tag inject
    (s.halted = true → exec i s = .next (answered i s 0x14 tag .halted []))
    ∧ (s.halted = false → 2 ≤ inject.toNat → exec i s = .next (answered i s 0x14 tag .outOfRange [0]))
    ∧ (s.halted = false → inject.toNat ≤ 1 → s.selfTest.running = true →
      exec i s = .next (answered i s 0x14 tag .busy [match s.selfTest.phase with | .none => 0 | .waiting => 1 | .memory => 2]))

/-- R154: a verification takes each of the twelve groups under its number; it changes no stored field and no code, marks
invalid exactly the valid groups whose code fails, and latches PARAM_FAULT with those groups, if any. A code computed over the stored fields passes; whether another one
agrees is a free value (log 13).
R63, R72, R80, R131, R155: the values used in place of stored ones that are out of range, whatever the valid flag (the model's
choice, log 21). -/
def Obligations.GroupsVerified : Prop :=
  (∀ (α : Type) [DecidableEq α] (n : Nat) (bytes : α → List Byte) (g : Machine.Group α),
    (verifyGroup n bytes g).fields = g.fields ∧ (verifyGroup n bytes g).codeOver = g.codeOver
    ∧ (g.valid = false → verifyGroup n bytes g = g) ∧ (g.codeOver = g.fields → verifyGroup n bytes g = g)
    ∧ (g.codeOver ≠ g.fields → (verifyGroup n bytes g).valid =
        (g.valid && Config.codePasses n (bytes g.codeOver) (bytes g.fields))))
  ∧ (∀ g : Groups,
    g.verify.timebase = verifyGroup 0 Timebase.bytes g.timebase
    ∧ (∀ c : Fin 4, (g.verify.profiles[c.val]) = verifyGroup (1 + c.val) Profile.bytes g.profiles[c.val])
    ∧ g.verify.latency = verifyGroup 5 Latency.bytes g.latency
    ∧ g.verify.weights = verifyGroup 6 Weights.bytes g.weights
    ∧ g.verify.thresholds = verifyGroup 7 Thresholds.bytes g.thresholds
    ∧ g.verify.heartbeat = verifyGroup 8 Heartbeat.bytes g.heartbeat
    ∧ g.verify.guard = verifyGroup 9 Guard.bytes g.guard
    ∧ g.verify.table = verifyGroup 10 TableSettings.bytes g.table
    ∧ g.verify.masks = verifyGroup 11 Masks.bytes g.masks
    ∧ g.valids =
      [g.timebase.valid, (g.profiles[0]).valid, (g.profiles[1]).valid, (g.profiles[2]).valid, (g.profiles[3]).valid,
        g.latency.valid, g.weights.valid, g.thresholds.valid, g.heartbeat.valid, g.guard.valid, g.table.valid, g.masks.valid])
  ∧ (∀ s : State,
    let failed := newlyFailed s.groups s.groups.verify
    (∀ k, k < 16 → failed.getLsbD k
      = (decide (k < 12) && s.groups.valids.getD k false && !(s.groups.verify.valids.getD k false)))
    ∧ (failed = 0 → s.verifyGroups = { s with groups := s.groups.verify })
    ∧ (failed ≠ 0 → s.verifyGroups =
        { s with
          groups := s.groups.verify
          latches := { s.latches with paramFault := some (match s.latches.paramFault with
            | none => ⟨s.clock, failed⟩
            | some p => ⟨p.time, p.groups ||| failed⟩) } }))
  ∧ ∀ s : State,
    let h := s.groups.heartbeat.fields
    let g := s.groups.guard.fields
    let t := s.groups.table.fields
    let y := s.groups.latency.fields
    s.hbMin = (if h.hbMin = 0 then 1 else h.hbMin.toNat)
    ∧ s.hbMax = (if h.hbMax.toNat ≤ s.hbMin then s.hbMin + 1 else h.hbMax.toNat)
    ∧ s.stallLimit = (if h.stallLimit = 0 then 1 else h.stallLimit.toNat)
    ∧ s.graceLength = (if h.grace = 0 then 1 else h.grace.toNat)
        * (match h.gdiv.toNat with | 0 => 64 | 1 => 128 | 2 => 256 | _ => 512)
    ∧ s.maxDown = (if g.maxDown = 0 then 1 else if 16 < g.maxDown.toNat then 16 else g.maxDown.toNat)
    ∧ s.ccPct = (if 100 < g.ccPct.toNat then 100 else g.ccPct.toNat)
    ∧ s.xchkTol = (if 1023 < g.xchkTol.toNat then 1023 else g.xchkTol.toNat)
    ∧ s.quota = (if t.quota = 0 then 1 else if 8192 < t.quota.toNat then 8192 else t.quota.toNat)
    ∧ s.highMark = (if t.highMark.toNat < 257 then 257 else if 8192 < t.highMark.toNat then 8192 else t.highMark.toNat)
    ∧ s.gain = (if y.gain = 0 then 1 else if 6 < y.gain.toNat then 6 else y.gain.toNat)
    ∧ s.seedLat = (if y.seedLat = 0 then 1 else y.seedLat.toNat)
    ∧ ∀ c : Fin 4, s.settle c = (if (s.profile c).fields.settle = 0 then 1 else (s.profile c).fields.settle.toNat)

/-- R21, R45, R59, R92, R132, R141, R149, R153, R159, R170: CLEAR's custody reset as one event, with everything it keeps. That
ABSENT boards are left untouched, and the inject flag and findings kept, of a running test and of an idle one, is the model's
reading (log 28);
that the effective visit rate and the clamped flag stand is its choice (log 39). -/
def Obligations.ClearResetsCustody : Prop :=
  ∀ (s : State) (tag : Byte), s.resetHeld = false →
    let i := Instr.clear tag
    let h := s.groups.heartbeat.fields
    let graceEnd := s.clock + BitVec.ofNat 32 (max 1 h.grace.toNat * 2 ^ (6 + min 3 h.gdiv.toNat))
    let moved := (allBoards.filter fun b => decide ((s.board b).state ≠ .absent)).length
    ∃ t, exec i s = .next t
      ∧ Answers i s t 0x15 tag .accepted (be 4 s.clock.toNat ++ [BitVec.ofNat 8 moved])
      ∧ t.slots = [] ∧ t.index = [] ∧ t.free = List.range 8192 ∧ (∀ b, t.list b = []) ∧ t.unattributed = []
      ∧ t.occupancy = 0 ∧ t.tableHighArmed = true
      ∧ (∀ b, (s.board b).state = .absent → t.board b = s.board b ∧ t.line b = s.line b)
      ∧ (∀ b, (s.board b).state ≠ .absent →
        t.board b =
          { state := .warming, score := 0, latency := 16 * max 1 s.groups.latency.fields.seedLat.toNat
            outstanding := 0, damaged := 0, releases := 0, charges := 0, baseline := none, graceEnd := some graceEnd
            stallExpiry := none, lastProgress := none, lostExpiry := none, heard := false, pending := false
            verdictTime := none }
        ∧ t.line b = ⟨none, false⟩)
      ∧ t.active = moved ∧ t.doubtful = 0 ∧ t.down = 0 ∧ t.commonCause = false ∧ (∀ b, t.cause b = none)
      ∧ (∀ r, t.latches.isSet r = false) ∧ t.halted = false
      ∧ t.sweepRunning = true ∧ t.sweepPosition = 0 ∧ t.pass = .awaiting (s.clock + 1)
      ∧ t.testRecord = ⟨.absent, 0, 0, false⟩
      ∧ (s.selfTest.running = true → t.selfTest =
          { s.selfTest with running := false, phase := .none, result := .aborted, causes := ⟨false, false, false, false⟩ })
      ∧ (s.selfTest.running = false → t.selfTest = s.selfTest)
      ∧ { t.withLinkOf s with
          slots := s.slots, index := s.index, free := s.free, lists := s.lists, unattributed := s.unattributed
          occupancy := s.occupancy, tableHighArmed := s.tableHighArmed, boards := s.boards, lines := s.lines
          active := s.active, doubtful := s.doubtful, down := s.down, commonCause := s.commonCause
          withheld := s.withheld, latches := s.latches, halted := s.halted, sweepRunning := s.sweepRunning
          sweepPosition := s.sweepPosition, pass := s.pass, testRecord := s.testRecord, selfTest := s.selfTest } = s

/-- R20: the Custody Table after a pin reset, and PEEK of any slot reporting FREE once RESET_N is released.
R91: the board records, the test record and the lines after a pin reset. -/
def Obligations.PinResetTableAndBoards : Prop :=
  (∀ s : State, ∃ t, exec .pinReset s = .next t
    ∧ (∀ n, t.slot n = none) ∧ t.free = List.range 8192 ∧ t.index = [] ∧ (∀ b, t.list b = []) ∧ t.unattributed = []
    ∧ t.occupancy = 0 ∧ t.tableHighArmed = true ∧ t.groups.table = ⟨⟨512, 7168⟩, ⟨512, 7168⟩, true⟩
    ∧ ∀ (u : State) (tag : Byte) (w : BitVec 16), exec .resetNReleased t = .next u → w.toNat < 8192 →
      exec (.peek tag w) u = .next (answered (.peek tag w) u 0x05 tag .slot (255 :: be 2 w.toNat ++ List.replicate 28 0)))
  ∧ ∀ s : State, ∃ t, exec .pinReset s = .next t
    ∧ (∀ b, t.board b =
        { state := .absent, score := 0, latency := 4000, outstanding := 0, damaged := 0, releases := 0, charges := 0
          baseline := none, graceEnd := none, stallExpiry := none, lastProgress := none, lostExpiry := none
          heard := false, pending := false, verdictTime := none }
      ∧ t.line b = ⟨none, false⟩)
    ∧ t.testRecord = ⟨.absent, 0, 0, false⟩ ∧ t.active = 0 ∧ t.doubtful = 0 ∧ t.down = 0
    ∧ t.groups.heartbeat = ⟨⟨50, 1500, 5000, 40, 2⟩, ⟨50, 1500, 5000, 40, 2⟩, true⟩

/-- R58, R62, R63, R95, R100, R132, R141, R148, R149, R154, R159, R161: the rest of the part after a pin reset. READY low
while RESET_N is held is the model's reading (log 10); that the queue of waiting commands is kept (log 9), that the responses
not yet sent are dropped (log 11), and the effective visit rate and the findings (log 30) are its choices. -/
def Obligations.PinResetRest : Prop :=
  ∀ s : State, ∃ t, exec .pinReset s = .next t
    ∧ t.pending = s.pending ∧ t.resetHeld = true ∧ t.rx = .hunting ∧ t.buffer = [] ∧ t.tx = [] ∧ t.ready = false
    ∧ t.clock = 0 ∧ t.prescale = 2 ∧ t.divider = 0 ∧ t.configuredVpt = 3 ∧ t.timebasePending = false
    ∧ t.effectiveVpt = 3 ∧ t.clamped = false ∧ t.sweepRunning = true ∧ t.sweepPosition = 0 ∧ t.pass = .awaiting 0
    ∧ t.effWeights = ⟨64, 128, 96, 256, 32, 192⟩ ∧ t.effThresholds = ⟨512, 128, 1024, 4⟩
    ∧ t.commonCause = false ∧ (∀ b, t.cause b = none)
    ∧ (∀ u : Fin 4, t.unit u = ⟨false, .key, ⟨0, 0⟩, ⟨0xFFFFFF, 0xFFFFFF⟩, 0, 0, 0⟩)
    ∧ (∀ r, t.latches.isSet r = false) ∧ t.noticeMask = 4095 ∧ t.faultMask = 31 ∧ t.attnN = true ∧ t.faultN = true
    ∧ t.groups.timebase = ⟨⟨2, 0, 3⟩, ⟨2, 0, 3⟩, true⟩
    ∧ t.groups.latency = ⟨⟨250, 3⟩, ⟨250, 3⟩, true⟩
    ∧ t.groups.weights = ⟨⟨64, 128, 96, 256, 32, 192⟩, ⟨64, 128, 96, 256, 32, 192⟩, true⟩
    ∧ t.groups.thresholds = ⟨⟨512, 128, 1024, 4⟩, ⟨512, 128, 1024, 4⟩, true⟩
    ∧ t.groups.guard = ⟨⟨4, 25, 4⟩, ⟨4, 25, 4⟩, true⟩ ∧ t.groups.masks = ⟨⟨4095, 31⟩, ⟨4095, 31⟩, true⟩
    ∧ (∀ c : Fin 4, (t.profile c).valid = true ∧ (t.profile c).codeOver = (t.profile c).fields
      ∧ (t.profile c).fields =
        match c with
        | 0 => ⟨300, 8000, 12, 90000⟩ | 1 => ⟨200, 5000, 12, 20000⟩ | 2 => ⟨400, 10000, 16, 60000⟩
        | 3 => ⟨300, 8000, 12, 180000⟩)
    ∧ t.selfTest.running = false ∧ t.selfTest.phase = .none ∧ t.selfTest.result = .none
    ∧ t.selfTest.causes = ⟨false, false, false, false⟩ ∧ t.selfTest.inject = false ∧ t.halted = false
    ∧ t.selfTest.invalidGroups = 0 ∧ t.selfTest.nA = 0 ∧ t.selfTest.nV = 0 ∧ t.selfTest.memoryFailures = 0

/-! ## Time, the sweep and the timers -/

/-- R44, R45: a TU step raises the custody clock by one, wrapping from 4,294,967,295 to 0; the TU is PRE × (DIV + 1) reference
periods of the effective settings. Nothing else changes when nothing is due in the TU that ends.
R46, R49: what is due in that TU and has not been taken is taken before the clock steps: the sweep's events, whether or not
the queue has taken some of them before, then the grace, lost and stall timers of every board (the order is the model's
choice, log 7).
R46: a time is past a deadline from the deadline itself for 2^31 steps of the clock, and at no other time. -/
def Obligations.ClockAndPastTest : Prop :=
  (∀ s : State, s.resetHeld = false →
    let sweepIdle := s.sweepRunning = false ∨ (∃ due, s.pass = .awaiting due ∧ s.clock ≠ due)
      ∨ ∃ began, s.pass = .running began ∧ s.clock ≠ began + BitVec.ofNat 32 (s.sweepPosition / (64 * 2 ^ s.effectiveVpt))
    let timersIdle := ∀ b, ((s.board b).state = .warming → ∀ e, (s.board b).graceEnd = some e → past s.clock e = false)
      ∧ (∀ e, (s.board b).lostExpiry = some e → past s.clock e = false)
      ∧ ∀ e, (s.board b).stallExpiry = some e → past s.clock e = false
    exec .tuStep s = .next { s.endTu with clock := s.clock + 1 }.driveLines
    ∧ (sweepIdle → timersIdle → exec .tuStep s = .next { s with clock := s.clock + 1 }.driveLines)
    ∧ (sweepIdle → s.endTu = allBoards.foldl (fun t b =>
        stallExpiryEffect b (lostExpiryEffect b (graceExpiryEffect b t))) s)
    ∧ (s.SweepWf → (passStartEffect s).endTu = s.endTu ∧ (sweepVisitEffect s).endTu = s.endTu)
    ∧ exec .passStart s = .next (passStartEffect s).driveLines ∧ exec .sweepVisit s = .next (sweepVisitEffect s).driveLines
    ∧ ∀ b, exec (.graceExpiry b) s = .next (graceExpiryEffect b s).driveLines
      ∧ exec (.lostExpiry b) s = .next (lostExpiryEffect b s).driveLines
      ∧ exec (.stallExpiry b) s = .next (stallExpiryEffect b s).driveLines)
  ∧ (∀ t : Time, (t + 1).toNat = if t.toNat = 4294967295 then 0 else t.toNat + 1)
  ∧ (∀ s : State, s.prescale ≤ 3 →
    s.tuPeriods = (match s.prescale with | 0 => 12500 | 1 => 25000 | 2 => 50000 | _ => 100000) * (s.divider + 1))
  ∧ ∀ t d : Time, past t d = true ↔ ∃ k, k < 2 ^ 31 ∧ t = d + BitVec.ofNat 32 k

/-- R48, R50: a pass start that is due takes up the TIMEBASE group if it is pending, verifies the groups, settles the visit
rate from the profiles then valid, gives a waiting test its memory phase, and begins at slot 0; one that is not due (the
sweep STOPPED, a pass in progress, or the clock at another value than the awaited one) changes nothing (log 5). A test
accepted between a custody reset and its pass start is waiting too (the model's choice, log 38). -/
def Obligations.PassStarts : Prop :=
  ∀ s : State, s.resetHeld = false →
    (s.sweepRunning = true → s.pass = .awaiting s.clock →
      let f := s.groups.timebase.fields
      let taken : State :=
        if s.timebasePending = true then
          { s with
            prescale := min 3 f.pre.toNat, divider := min 3 f.div.toNat, configuredVpt := min 5 f.vpt.toNat
            timebasePending := false }
        else s
      let v := taken.verifyGroups
      let rate := settledVpt taken.configuredVpt v.groups.leastFloor
      exec .passStart s = .next
        { v with
          effectiveVpt := rate, clamped := decide (rate ≠ taken.configuredVpt), sweepPosition := 0
          pass := .running s.clock
          selfTest := if s.selfTest.phase = TestPhase.waiting then { s.selfTest with phase := .memory } else s.selfTest }.driveLines)
    ∧ (s.sweepRunning = false ∨ s.pass ≠ .awaiting s.clock → exec .passStart s = .next s.driveLines)

/-- R51: the effective visit rate. The period of code c is 8192 / (64 × 2^c) TU; F_min is the least AUTH_FLOOR of the valid
profiles. -/
def Obligations.VisitRateSettled : Prop :=
  (∀ configured, settledVpt configured none = configured)
    ∧ (∀ configured fMin, passPeriod configured ≤ fMin / 2 → settledVpt configured (some fMin) = configured)
    ∧ (∀ configured fMin, configured ≤ 5 → fMin / 2 < passPeriod configured → 4 ≤ fMin / 2 →
      let e := settledVpt configured (some fMin)
      e ≤ 5 ∧ passPeriod e ≤ fMin / 2 ∧ ∀ c, c < e → fMin / 2 < passPeriod c)
    ∧ (∀ configured fMin, configured ≤ 5 → fMin / 2 < 4 → settledVpt configured (some fMin) = 5)
    ∧ (∀ configured fMin, configured ≤ 5 → configured ≤ settledVpt configured fMin)
    ∧ passPeriod 0 = 128 ∧ passPeriod 1 = 64 ∧ passPeriod 2 = 32 ∧ passPeriod 3 = 16 ∧ passPeriod 4 = 8 ∧ passPeriod 5 = 4
    ∧ ∀ g : Groups,
      (g.leastFloor = none ↔ ∀ c : Fin 4, (g.profiles[c.val]).valid = false)
      ∧ ∀ m, g.leastFloor = some m ↔
        (∃ c : Fin 4, (g.profiles[c.val]).valid = true ∧ (g.profiles[c.val]).fields.authFloor.toNat = m)
          ∧ ∀ c : Fin 4, (g.profiles[c.val]).valid = true → m ≤ (g.profiles[c.val]).fields.authFloor.toNat

/-- R49, R53: the visit of the slot whose TU it is, to a clean record of a board in service that is past its deadline and not
yet marked: it marks the record overdue, offers OVERDUE, and charges the board, or excuses the stage in WARMING.
R52, R54, R152: the other visits outside the memory phase's FREE slots: a clean record that is held, marked or not yet due, a
DAMAGED slot, and a FREE slot outside the memory phase are left as they are; a parity failure damages the record; an index that
does not give the slot puts the device in HALTED (for a held record this is the model's choice, log 37).
State.afterVisit gives what follows the slot's own outcome: the next position, or after slot 8191 the end of the pass and with
it of a memory phase (position 0 and a visit that enters HALTED: the model's reading, log 25).
A visit in any other TU, in a sweep STOPPED or between passes changes nothing (log 5). -/
def Obligations.VisitsOfRecords : Prop :=
  (∀ (s : State) (began : Time) (st : Stage) (b : Bd) (p : Payload) (parity : Bool),
    s.resetHeld = false → s.sweepRunning = true → s.pass = .running began → s.sweepPosition ≤ 8191 →
    s.clock = began + BitVec.ofNat 32 (s.sweepPosition / (64 * 2 ^ s.effectiveVpt)) →
    s.slot s.sweepPosition = some (.record st b p parity) → readsClean p parity = true →
    s.lookupKey p.key = some s.sweepPosition → InService (s.board b).state → p.overdue = none →
    past s.clock p.deadline = true →
    let n := s.sweepPosition
    let q : Payload :=
      { p with
        overdue := some ⟨s.clock, decide ((s.board b).state = .warming)⟩
        lateAuth := p.lateAuth || decide (st = .lodged), lateSettle := p.lateSettle || decide (st = .decided) }
    let u : State :=
      { s with
        slots := mapPut n (.record st b q (parityOf q)) s.slots
        latches := (s.offer .overdue n b p.key p.watchSet).latches }
    let kind : Evidence := match st with | .lodged => .authOver | .decided => .settleOver
    let v := if (s.board b).state = .warming then u else u.charge b kind
    exec .sweepVisit s = .next (State.afterVisit began v).driveLines)
  ∧ (∀ (s : State) (began : Time), s.resetHeld = false → s.sweepRunning = true → s.pass = .running began →
    s.sweepPosition ≤ 8191 → s.clock = began + BitVec.ofNat 32 (s.sweepPosition / (64 * 2 ^ s.effectiveVpt)) →
    let n := s.sweepPosition
    let passed (t : State) : Prop := exec .sweepVisit s = .next (State.afterVisit began t).driveLines
    (∀ x, s.slot n = some x → x.isDamaged = true → passed s)
    ∧ (s.slot n = none → s.selfTest.phase ≠ .memory → passed s)
    ∧ ∀ (st : Stage) (b : Bd) (p : Payload) (parity : Bool), s.slot n = some (.record st b p parity) →
      (readsClean p parity = false → passed (s.damageRecord n b p parity))
      ∧ (readsClean p parity = true → s.lookupKey p.key ≠ some n → passed (s.enterHalted .keyIndex))
      ∧ (readsClean p parity = true → s.lookupKey p.key = some n →
        (s.board b).state = .silent ∨ p.overdue ≠ none ∨ past s.clock p.deadline = false → passed s))
  ∧ ∀ s : State, s.resetHeld = false →
    (s.sweepRunning = false ∨ (∃ due, s.pass = .awaiting due)
      ∨ ∃ began, s.pass = .running began
        ∧ s.clock ≠ began + BitVec.ofNat 32 (s.sweepPosition / (64 * 2 ^ s.effectiveVpt))) →
    exec .sweepVisit s = .next s.driveLines

/-- R8, R49, R54, R158: a FREE slot in the memory phase keeps its place when the readbacks of both patterns agree (each a free
value, log 14), and otherwise becomes an unattributed DAMAGED slot and counts as a memory failure; State.afterVisit gives the next position or, at slot 8191, the end of the pass
and of the test, the causes recorded before kept and the rest of the state as it stood. Outside the memory phase the visit of
a FREE slot 8191 ends the pass alone. The position then being 0 is the model's reading (log 25). -/
def Obligations.MemoryPhaseVisits : Prop :=
  ∀ (s : State) (began : Time), s.resetHeld = false → s.sweepRunning = true → s.pass = .running began →
    s.clock = began + BitVec.ofNat 32 (s.sweepPosition / (64 * 2 ^ s.effectiveVpt)) → s.slot s.sweepPosition = none →
    let n := s.sweepPosition
    (n ≤ 8191 → s.selfTest.phase = .memory →
      let kept : State := { s with freeValues := s.freeValues + 1 }
      let high := s.tableHighArmed = true ∧ s.highMark ≤ s.occupancy + 1
      let lost : State :=
        { kept with
          slots := mapPut n .unattributed s.slots
          free := s.free.erase n
          unattributed := insertAscending n s.unattributed
          occupancy := s.occupancy + 1
          tableHighArmed := if high then false else s.tableHighArmed
          selfTest := { s.selfTest with memoryFailures := s.selfTest.memoryFailures + 1 }
          latches := { s.latches with
            tableHigh := if high then some (s.latches.tableHigh.getD ⟨s.clock, s.occupancy + 1⟩) else s.latches.tableHigh
            damage := some (match s.latches.damage with
              | none => ⟨s.clock, n, none, 1⟩
              | some d => { d with count := min 255 (d.count + 1) }) } }
      let readsBack := Config.patternReadsBack s.freeValues n false = true ∧ Config.patternReadsBack s.freeValues n true = true
      exec .sweepVisit s = .next (State.afterVisit began (if readsBack then kept else lost)).driveLines)
    ∧ (n = 8191 → s.selfTest.phase ≠ .memory →
      exec .sweepVisit s = .next { s with
        sweepPosition := 0, pass := .awaiting (began + BitVec.ofNat 32 (passPeriod s.effectiveVpt)) }.driveLines)
    ∧ (n = 8191 → s.selfTest.phase = .memory → s.halted = false →
      ∃ t, exec .sweepVisit s = .next t ∧ t.sweepPosition = 0
        ∧ t.pass = .awaiting (began + BitVec.ofNat 32 (passPeriod s.effectiveVpt))
        ∧ t.selfTest.running = false ∧ t.selfTest.phase = .none
        ∧ (t.selfTest.causes.memory = true ↔ 0 < t.selfTest.memoryFailures)
        ∧ { t.selfTest.causes with memory := s.selfTest.causes.memory } = s.selfTest.causes
        ∧ t.selfTest.result = (if t.selfTest.causes = ⟨false, false, false, false⟩ then .pass else .fail)
        ∧ ∃ l, t.latches.testDone = some l ∧ l.result = t.selfTest.result ∧ l.causes = t.selfTest.causes)

/-- R82: grace expiry makes the board LIVE, arms the lost timer when it was never heard and the stall timer when it holds
work, and leaves the rest of its record, the counts and the common-cause state; no notice is latched. That an expiry is
taken by the past test is the model's reading (log 6). -/
def Obligations.GraceExpires : Prop :=
  ∀ (s : State) (b : Bd) (e : Time), s.resetHeld = false → (s.board b).state = .warming → (s.board b).graceEnd = some e →
    past s.clock e = true →
    exec (.graceExpiry b) s = .next { s with
      boards := s.boards.set b.val
        { s.board b with
          state := .live, graceEnd := none
          lostExpiry :=
            if (s.board b).heard = true then (s.board b).lostExpiry else some (s.clock + BitVec.ofNat 32 s.hbMax)
          stallExpiry :=
            if 0 < (s.board b).outstanding then some (s.clock + BitVec.ofNat 32 s.stallLimit) else none }
        b.isLt }.driveLines

/-- R102, R103, R104: a pulse on the line of a WARMING, LIVE or DOUBTFUL board is counted and pushes the lost timer out; a
measured interval below HB_MIN is charged RACING in LIVE and DOUBTFUL; a pulse for any other board changes nothing. That
the pulse is recorded before its charge is the model's reading (log 22). -/
def Obligations.PulseCounted : Prop :=
  ∀ (s : State) (b : Bd), s.resetHeld = false →
    let counted : State :=
      { s with
        lines := s.lines.set b.val ⟨some s.clock, true⟩ b.isLt
        boards := s.boards.set b.val
          { s.board b with heard := true, lostExpiry := some (s.clock + BitVec.ofNat 32 s.hbMax) } b.isLt }
    ((s.board b).state = .warming → exec (.pulse b) s = .next counted.driveLines)
    ∧ (Chargeable (s.board b).state →
      ((s.line b).intervalArmed = false → exec (.pulse b) s = .next counted.driveLines)
      ∧ ∀ last, (s.line b).intervalArmed = true → (s.line b).lastPulse = some last →
        exec (.pulse b) s = .next
          (if (s.clock - last).toNat < s.hbMin then counted.charge b .racing else counted).driveLines)
    ∧ (¬ InService (s.board b).state → exec (.pulse b) s = .next s.driveLines)

/-- R106: the lost timer runs out: interval armed becomes no, the timer is re-armed at now + HB_MAX, and LOST is charged in
LIVE and DOUBTFUL and not in WARMING. An expiry that is not due changes nothing (log 5).
R109: the stall timer runs out: it is re-armed at now + STALL_LIMIT, and STALL is charged unless the device is HALTED. An
expiry that is not due changes nothing (log 5). That a timer is re-armed before its charge, and that an expiry is taken by the
past test, is the model's reading (logs 22, 6). -/
def Obligations.LostAndStallTimersExpire : Prop :=
  (∀ (s : State) (b : Bd), s.resetHeld = false →
    (∀ e, (s.board b).lostExpiry = some e → past s.clock e = true →
      let u : State :=
        { s with
          lines := s.lines.set b.val { s.line b with intervalArmed := false } b.isLt
          boards := s.boards.set b.val
            { s.board b with lostExpiry := some (s.clock + BitVec.ofNat 32 s.hbMax) } b.isLt }
      ((s.board b).state = .warming → exec (.lostExpiry b) s = .next u.driveLines)
      ∧ (Chargeable (s.board b).state → exec (.lostExpiry b) s = .next (u.charge b .lost).driveLines))
    ∧ ((∀ e, (s.board b).lostExpiry = some e → past s.clock e = false) → exec (.lostExpiry b) s = .next s.driveLines))
  ∧ ∀ (s : State) (b : Bd), s.resetHeld = false →
    (∀ e, (s.board b).stallExpiry = some e → past s.clock e = true →
      let u : State :=
        { s with
          boards := s.boards.set b.val
            { s.board b with stallExpiry := some (s.clock + BitVec.ofNat 32 s.stallLimit) } b.isLt }
      (s.halted = true → exec (.stallExpiry b) s = .next u.driveLines)
      ∧ (s.halted = false → Chargeable (s.board b).state → exec (.stallExpiry b) s = .next (u.charge b .stall).driveLines))
    ∧ ((∀ e, (s.board b).stallExpiry = some e → past s.clock e = false) → exec (.stallExpiry b) s = .next s.driveLines)

/-! ## What every step keeps -/

/-- R81, R96, R99: every step keeps each board's score within what its state allows under legal effective thresholds.
R64, R68: every step keeps each latency estimate in 0..1,048,560 and each charges count in 0..65535. -/
def Obligations.ScoresAndEstimatesKept : Prop :=
  (∀ s t : State, s.ScoreWf → step s = .next t → t.ScoreWf)
  ∧ ∀ s t : State, s.EstimateWf → step s = .next t → t.EstimateWf

/-- R117, R118, R121, R131: every step keeps the Verdict Unit's counts, its common-cause state, the down quota and the
pending set in step with the boards. -/
def Obligations.VerdictUnitKept : Prop :=
  ∀ s t : State, ThresholdsLegal s.effThresholds → s.VerdictWf → step s = .next t →
    ThresholdsLegal t.effThresholds ∧ t.VerdictWf

/-- R75, R102, R105, R108, R124 and the table of section 5.2: every step keeps each board's timers armed exactly as its state
allows.
R46, R49: with them and the sweep's settings in range (TableKept), every step keeps every armed timer, the awaited pass start
and the next visit at or after now, so that none is ever taken in a later TU than its own. -/
def Obligations.TimersKept : Prop :=
  (∀ s t : State, s.TimersWf → step s = .next t → t.TimersWf)
  ∧ ∀ s t : State, s.TimersWf → s.SweepWf → s.OnTimeWf → step s = .next t → t.OnTimeWf

/-- R1, R5, R7, R9, R10, R17, R123 and R49: every step keeps the Custody Table's structures in agreement, canonical, with its
slots shared out without remainder, and the sweep's settings in range.
R10: the FREE slots, the boards' outstanding counts and the unattributed damaged slots always sum to 8192. -/
def Obligations.TableKept : Prop :=
  (∀ s t : State, s.TableWf → s.SweepWf → step s = .next t → t.TableWf ∧ t.SweepWf)
  ∧ ∀ s : State, s.TableWf →
    s.free.length + (allBoards.map fun b => (s.board b).outstanding).sum + s.unattributed.length = 8192

/-- R151, R152, R153: from a state whose structures agree and whose payloads read clean, no step enters HALTED: no structure
check fails unless the stores are disturbed from outside. -/
def Obligations.SoundTableNeverHalts : Prop :=
  ∀ s t : State, s.TableWf → s.SweepWf → s.CleanWf → s.halted = false → step s = .next t → t.CleanWf ∧ t.halted = false

/-- R146, R147, R160, R161: every step keeps the receiver and the buffer well formed, at most 16 frames buffered, and READY,
ATTN_N and FAULT_N at the levels their rules give (READY low while RESET_N is held is the model's reading, log 10).
R146 to R148: ATTN_N is asserted exactly while a latch is set whose kind the effective notice mask enables, FAULT_N exactly
while a condition holds that the effective fault mask enables, in the bit order of R148.
R76, R156 to R159: every step keeps the test record in ABSENT with S 0, and a test running exactly while it has a phase,
without result. -/
def Obligations.LinkPinsAndSelfTestKept : Prop :=
  (∀ s t : State, s.LinkWf → s.PinsWf → step s = .next t → t.LinkWf ∧ t.PinsWf)
  ∧ (∀ s t : State, s.TestWf → step s = .next t → t.TestWf)
  ∧ (∀ s : State, s.attnAsserted = true ↔
      ∃ r, s.latches.isSet r = true ∧ s.noticeMask.getLsbD (r.priority - 1) = true)
  ∧ ∀ s : State, mapWf s.slots = true → (s.faultAsserted = true ↔
      (s.faultMask.getLsbD 0 = true ∧ ∃ b, (s.board b).state = .silent)
      ∨ (s.faultMask.getLsbD 1 = true ∧ s.commonCause = true)
      ∨ (s.faultMask.getLsbD 2 = true ∧ s.halted = true)
      ∨ (s.faultMask.getLsbD 3 = true ∧ ∃ k, k < 12 ∧ s.groups.valids.getD k false = false)
      ∨ (s.faultMask.getLsbD 4 = true ∧ ∃ n x, s.slot n = some x ∧ x.isDamaged = true))

/-- Right after reset (State.reset, log 9) every invariant above holds. -/
def Obligations.InvariantsHoldAtReset : Prop :=
  State.reset.ScoreWf ∧ State.reset.EstimateWf ∧ State.reset.VerdictWf ∧ State.reset.TimersWf ∧ State.reset.OnTimeWf
    ∧ State.reset.TableWf ∧ State.reset.SweepWf ∧ State.reset.CleanWf ∧ State.reset.halted = false ∧ State.reset.LinkWf
    ∧ State.reset.PinsWf ∧ State.reset.TestWf
end

