-- ==== Sys2Proof/Laws/State.lean ====
section
/-! SUPPORT. The fields each named update of State leaves as they were (true by rfl), and what a read gives after the update
it concerns. The lemmas are simp lemmas: a proof that meets an update rewrites a field of the result to the field before. -/

namespace Sys2Proof.Machine

@[simp] theorem State.modifyBoard_rest (s : State) (b : Bd) (f : Board → Board) :
    (s.modifyBoard b f).pending = s.pending ∧ (s.modifyBoard b f).resetHeld = s.resetHeld ∧
    (s.modifyBoard b f).rx = s.rx ∧ (s.modifyBoard b f).buffer = s.buffer ∧ (s.modifyBoard b f).tx = s.tx ∧
    (s.modifyBoard b f).ready = s.ready ∧ (s.modifyBoard b f).slots = s.slots ∧ (s.modifyBoard b f).index = s.index ∧
    (s.modifyBoard b f).free = s.free ∧ (s.modifyBoard b f).lists = s.lists ∧
    (s.modifyBoard b f).unattributed = s.unattributed ∧ (s.modifyBoard b f).occupancy = s.occupancy ∧
    (s.modifyBoard b f).tableHighArmed = s.tableHighArmed ∧ (s.modifyBoard b f).clock = s.clock ∧
    (s.modifyBoard b f).prescale = s.prescale ∧ (s.modifyBoard b f).divider = s.divider ∧
    (s.modifyBoard b f).configuredVpt = s.configuredVpt ∧ (s.modifyBoard b f).timebasePending = s.timebasePending ∧
    (s.modifyBoard b f).sweepRunning = s.sweepRunning ∧ (s.modifyBoard b f).sweepPosition = s.sweepPosition ∧
    (s.modifyBoard b f).effectiveVpt = s.effectiveVpt ∧ (s.modifyBoard b f).clamped = s.clamped ∧
    (s.modifyBoard b f).pass = s.pass ∧ (s.modifyBoard b f).testRecord = s.testRecord ∧
    (s.modifyBoard b f).effWeights = s.effWeights ∧ (s.modifyBoard b f).effThresholds = s.effThresholds ∧
    (s.modifyBoard b f).lines = s.lines ∧ (s.modifyBoard b f).active = s.active ∧
    (s.modifyBoard b f).doubtful = s.doubtful ∧ (s.modifyBoard b f).down = s.down ∧
    (s.modifyBoard b f).commonCause = s.commonCause ∧ (s.modifyBoard b f).withheld = s.withheld ∧
    (s.modifyBoard b f).units = s.units ∧ (s.modifyBoard b f).latches = s.latches ∧
    (s.modifyBoard b f).noticeMask = s.noticeMask ∧ (s.modifyBoard b f).faultMask = s.faultMask ∧
    (s.modifyBoard b f).attnN = s.attnN ∧ (s.modifyBoard b f).faultN = s.faultN ∧
    (s.modifyBoard b f).groups = s.groups ∧ (s.modifyBoard b f).selfTest = s.selfTest ∧
    (s.modifyBoard b f).halted = s.halted ∧ (s.modifyBoard b f).freeValues = s.freeValues := by
  simp only [State.modifyBoard, and_self]

@[simp] theorem State.modifyLine_rest (s : State) (b : Bd) (f : Line → Line) :
    (s.modifyLine b f).pending = s.pending ∧ (s.modifyLine b f).resetHeld = s.resetHeld ∧
    (s.modifyLine b f).rx = s.rx ∧ (s.modifyLine b f).buffer = s.buffer ∧ (s.modifyLine b f).tx = s.tx ∧
    (s.modifyLine b f).ready = s.ready ∧ (s.modifyLine b f).slots = s.slots ∧ (s.modifyLine b f).index = s.index ∧
    (s.modifyLine b f).free = s.free ∧ (s.modifyLine b f).lists = s.lists ∧
    (s.modifyLine b f).unattributed = s.unattributed ∧ (s.modifyLine b f).occupancy = s.occupancy ∧
    (s.modifyLine b f).tableHighArmed = s.tableHighArmed ∧ (s.modifyLine b f).clock = s.clock ∧
    (s.modifyLine b f).prescale = s.prescale ∧ (s.modifyLine b f).divider = s.divider ∧
    (s.modifyLine b f).configuredVpt = s.configuredVpt ∧ (s.modifyLine b f).timebasePending = s.timebasePending ∧
    (s.modifyLine b f).sweepRunning = s.sweepRunning ∧ (s.modifyLine b f).sweepPosition = s.sweepPosition ∧
    (s.modifyLine b f).effectiveVpt = s.effectiveVpt ∧ (s.modifyLine b f).clamped = s.clamped ∧
    (s.modifyLine b f).pass = s.pass ∧ (s.modifyLine b f).boards = s.boards ∧
    (s.modifyLine b f).testRecord = s.testRecord ∧ (s.modifyLine b f).effWeights = s.effWeights ∧
    (s.modifyLine b f).effThresholds = s.effThresholds ∧ (s.modifyLine b f).active = s.active ∧
    (s.modifyLine b f).doubtful = s.doubtful ∧ (s.modifyLine b f).down = s.down ∧
    (s.modifyLine b f).commonCause = s.commonCause ∧ (s.modifyLine b f).withheld = s.withheld ∧
    (s.modifyLine b f).units = s.units ∧ (s.modifyLine b f).latches = s.latches ∧
    (s.modifyLine b f).noticeMask = s.noticeMask ∧ (s.modifyLine b f).faultMask = s.faultMask ∧
    (s.modifyLine b f).attnN = s.attnN ∧ (s.modifyLine b f).faultN = s.faultN ∧ (s.modifyLine b f).groups = s.groups ∧
    (s.modifyLine b f).selfTest = s.selfTest ∧ (s.modifyLine b f).halted = s.halted ∧
    (s.modifyLine b f).freeValues = s.freeValues := by
  simp only [State.modifyLine, and_self]

@[simp] theorem State.setCause_rest (s : State) (b : Bd) (c : Option Cause) :
    (s.setCause b c).pending = s.pending ∧ (s.setCause b c).resetHeld = s.resetHeld ∧ (s.setCause b c).rx = s.rx ∧
    (s.setCause b c).buffer = s.buffer ∧ (s.setCause b c).tx = s.tx ∧ (s.setCause b c).ready = s.ready ∧
    (s.setCause b c).slots = s.slots ∧ (s.setCause b c).index = s.index ∧ (s.setCause b c).free = s.free ∧
    (s.setCause b c).lists = s.lists ∧ (s.setCause b c).unattributed = s.unattributed ∧
    (s.setCause b c).occupancy = s.occupancy ∧ (s.setCause b c).tableHighArmed = s.tableHighArmed ∧
    (s.setCause b c).clock = s.clock ∧ (s.setCause b c).prescale = s.prescale ∧ (s.setCause b c).divider = s.divider ∧
    (s.setCause b c).configuredVpt = s.configuredVpt ∧ (s.setCause b c).timebasePending = s.timebasePending ∧
    (s.setCause b c).sweepRunning = s.sweepRunning ∧ (s.setCause b c).sweepPosition = s.sweepPosition ∧
    (s.setCause b c).effectiveVpt = s.effectiveVpt ∧ (s.setCause b c).clamped = s.clamped ∧
    (s.setCause b c).pass = s.pass ∧ (s.setCause b c).boards = s.boards ∧ (s.setCause b c).testRecord = s.testRecord ∧
    (s.setCause b c).effWeights = s.effWeights ∧ (s.setCause b c).effThresholds = s.effThresholds ∧
    (s.setCause b c).lines = s.lines ∧ (s.setCause b c).active = s.active ∧ (s.setCause b c).doubtful = s.doubtful ∧
    (s.setCause b c).down = s.down ∧ (s.setCause b c).commonCause = s.commonCause ∧ (s.setCause b c).units = s.units ∧
    (s.setCause b c).latches = s.latches ∧ (s.setCause b c).noticeMask = s.noticeMask ∧
    (s.setCause b c).faultMask = s.faultMask ∧ (s.setCause b c).attnN = s.attnN ∧ (s.setCause b c).faultN = s.faultN ∧
    (s.setCause b c).groups = s.groups ∧ (s.setCause b c).selfTest = s.selfTest ∧ (s.setCause b c).halted = s.halted ∧
    (s.setCause b c).freeValues = s.freeValues := by
  simp only [State.setCause, and_self]

@[simp] theorem State.setList_rest (s : State) (b : Bd) (l : List Nat) :
    (s.setList b l).pending = s.pending ∧ (s.setList b l).resetHeld = s.resetHeld ∧ (s.setList b l).rx = s.rx ∧
    (s.setList b l).buffer = s.buffer ∧ (s.setList b l).tx = s.tx ∧ (s.setList b l).ready = s.ready ∧
    (s.setList b l).slots = s.slots ∧ (s.setList b l).index = s.index ∧ (s.setList b l).free = s.free ∧
    (s.setList b l).unattributed = s.unattributed ∧ (s.setList b l).occupancy = s.occupancy ∧
    (s.setList b l).tableHighArmed = s.tableHighArmed ∧ (s.setList b l).clock = s.clock ∧
    (s.setList b l).prescale = s.prescale ∧ (s.setList b l).divider = s.divider ∧
    (s.setList b l).configuredVpt = s.configuredVpt ∧ (s.setList b l).timebasePending = s.timebasePending ∧
    (s.setList b l).sweepRunning = s.sweepRunning ∧ (s.setList b l).sweepPosition = s.sweepPosition ∧
    (s.setList b l).effectiveVpt = s.effectiveVpt ∧ (s.setList b l).clamped = s.clamped ∧
    (s.setList b l).pass = s.pass ∧ (s.setList b l).boards = s.boards ∧ (s.setList b l).testRecord = s.testRecord ∧
    (s.setList b l).effWeights = s.effWeights ∧ (s.setList b l).effThresholds = s.effThresholds ∧
    (s.setList b l).lines = s.lines ∧ (s.setList b l).active = s.active ∧ (s.setList b l).doubtful = s.doubtful ∧
    (s.setList b l).down = s.down ∧ (s.setList b l).commonCause = s.commonCause ∧
    (s.setList b l).withheld = s.withheld ∧ (s.setList b l).units = s.units ∧ (s.setList b l).latches = s.latches ∧
    (s.setList b l).noticeMask = s.noticeMask ∧ (s.setList b l).faultMask = s.faultMask ∧
    (s.setList b l).attnN = s.attnN ∧ (s.setList b l).faultN = s.faultN ∧ (s.setList b l).groups = s.groups ∧
    (s.setList b l).selfTest = s.selfTest ∧ (s.setList b l).halted = s.halted ∧
    (s.setList b l).freeValues = s.freeValues := by
  simp only [State.setList, and_self]

@[simp] theorem State.setSlot_rest (s : State) (n : Nat) (x : Slot) :
    (s.setSlot n x).pending = s.pending ∧ (s.setSlot n x).resetHeld = s.resetHeld ∧ (s.setSlot n x).rx = s.rx ∧
    (s.setSlot n x).buffer = s.buffer ∧ (s.setSlot n x).tx = s.tx ∧ (s.setSlot n x).ready = s.ready ∧
    (s.setSlot n x).index = s.index ∧ (s.setSlot n x).free = s.free ∧ (s.setSlot n x).lists = s.lists ∧
    (s.setSlot n x).unattributed = s.unattributed ∧ (s.setSlot n x).occupancy = s.occupancy ∧
    (s.setSlot n x).tableHighArmed = s.tableHighArmed ∧ (s.setSlot n x).clock = s.clock ∧
    (s.setSlot n x).prescale = s.prescale ∧ (s.setSlot n x).divider = s.divider ∧
    (s.setSlot n x).configuredVpt = s.configuredVpt ∧ (s.setSlot n x).timebasePending = s.timebasePending ∧
    (s.setSlot n x).sweepRunning = s.sweepRunning ∧ (s.setSlot n x).sweepPosition = s.sweepPosition ∧
    (s.setSlot n x).effectiveVpt = s.effectiveVpt ∧ (s.setSlot n x).clamped = s.clamped ∧
    (s.setSlot n x).pass = s.pass ∧ (s.setSlot n x).boards = s.boards ∧ (s.setSlot n x).testRecord = s.testRecord ∧
    (s.setSlot n x).effWeights = s.effWeights ∧ (s.setSlot n x).effThresholds = s.effThresholds ∧
    (s.setSlot n x).lines = s.lines ∧ (s.setSlot n x).active = s.active ∧ (s.setSlot n x).doubtful = s.doubtful ∧
    (s.setSlot n x).down = s.down ∧ (s.setSlot n x).commonCause = s.commonCause ∧
    (s.setSlot n x).withheld = s.withheld ∧ (s.setSlot n x).units = s.units ∧ (s.setSlot n x).latches = s.latches ∧
    (s.setSlot n x).noticeMask = s.noticeMask ∧ (s.setSlot n x).faultMask = s.faultMask ∧
    (s.setSlot n x).attnN = s.attnN ∧ (s.setSlot n x).faultN = s.faultN ∧ (s.setSlot n x).groups = s.groups ∧
    (s.setSlot n x).selfTest = s.selfTest ∧ (s.setSlot n x).halted = s.halted ∧
    (s.setSlot n x).freeValues = s.freeValues := by
  simp only [State.setSlot, and_self]

@[simp] theorem State.modifyLatches_rest (s : State) (f : Latches → Latches) :
    (s.modifyLatches f).pending = s.pending ∧ (s.modifyLatches f).resetHeld = s.resetHeld ∧
    (s.modifyLatches f).rx = s.rx ∧ (s.modifyLatches f).buffer = s.buffer ∧ (s.modifyLatches f).tx = s.tx ∧
    (s.modifyLatches f).ready = s.ready ∧ (s.modifyLatches f).slots = s.slots ∧ (s.modifyLatches f).index = s.index ∧
    (s.modifyLatches f).free = s.free ∧ (s.modifyLatches f).lists = s.lists ∧
    (s.modifyLatches f).unattributed = s.unattributed ∧ (s.modifyLatches f).occupancy = s.occupancy ∧
    (s.modifyLatches f).tableHighArmed = s.tableHighArmed ∧ (s.modifyLatches f).clock = s.clock ∧
    (s.modifyLatches f).prescale = s.prescale ∧ (s.modifyLatches f).divider = s.divider ∧
    (s.modifyLatches f).configuredVpt = s.configuredVpt ∧ (s.modifyLatches f).timebasePending = s.timebasePending ∧
    (s.modifyLatches f).sweepRunning = s.sweepRunning ∧ (s.modifyLatches f).sweepPosition = s.sweepPosition ∧
    (s.modifyLatches f).effectiveVpt = s.effectiveVpt ∧ (s.modifyLatches f).clamped = s.clamped ∧
    (s.modifyLatches f).pass = s.pass ∧ (s.modifyLatches f).boards = s.boards ∧
    (s.modifyLatches f).testRecord = s.testRecord ∧ (s.modifyLatches f).effWeights = s.effWeights ∧
    (s.modifyLatches f).effThresholds = s.effThresholds ∧ (s.modifyLatches f).lines = s.lines ∧
    (s.modifyLatches f).active = s.active ∧ (s.modifyLatches f).doubtful = s.doubtful ∧
    (s.modifyLatches f).down = s.down ∧ (s.modifyLatches f).commonCause = s.commonCause ∧
    (s.modifyLatches f).withheld = s.withheld ∧ (s.modifyLatches f).units = s.units ∧
    (s.modifyLatches f).noticeMask = s.noticeMask ∧ (s.modifyLatches f).faultMask = s.faultMask ∧
    (s.modifyLatches f).attnN = s.attnN ∧ (s.modifyLatches f).faultN = s.faultN ∧
    (s.modifyLatches f).groups = s.groups ∧ (s.modifyLatches f).selfTest = s.selfTest ∧
    (s.modifyLatches f).halted = s.halted ∧ (s.modifyLatches f).freeValues = s.freeValues := by
  simp only [State.modifyLatches, and_self]

@[simp] theorem State.modifyGroups_rest (s : State) (f : Groups → Groups) :
    (s.modifyGroups f).pending = s.pending ∧ (s.modifyGroups f).resetHeld = s.resetHeld ∧
    (s.modifyGroups f).rx = s.rx ∧ (s.modifyGroups f).buffer = s.buffer ∧ (s.modifyGroups f).tx = s.tx ∧
    (s.modifyGroups f).ready = s.ready ∧ (s.modifyGroups f).slots = s.slots ∧ (s.modifyGroups f).index = s.index ∧
    (s.modifyGroups f).free = s.free ∧ (s.modifyGroups f).lists = s.lists ∧
    (s.modifyGroups f).unattributed = s.unattributed ∧ (s.modifyGroups f).occupancy = s.occupancy ∧
    (s.modifyGroups f).tableHighArmed = s.tableHighArmed ∧ (s.modifyGroups f).clock = s.clock ∧
    (s.modifyGroups f).prescale = s.prescale ∧ (s.modifyGroups f).divider = s.divider ∧
    (s.modifyGroups f).configuredVpt = s.configuredVpt ∧ (s.modifyGroups f).timebasePending = s.timebasePending ∧
    (s.modifyGroups f).sweepRunning = s.sweepRunning ∧ (s.modifyGroups f).sweepPosition = s.sweepPosition ∧
    (s.modifyGroups f).effectiveVpt = s.effectiveVpt ∧ (s.modifyGroups f).clamped = s.clamped ∧
    (s.modifyGroups f).pass = s.pass ∧ (s.modifyGroups f).boards = s.boards ∧
    (s.modifyGroups f).testRecord = s.testRecord ∧ (s.modifyGroups f).effWeights = s.effWeights ∧
    (s.modifyGroups f).effThresholds = s.effThresholds ∧ (s.modifyGroups f).lines = s.lines ∧
    (s.modifyGroups f).active = s.active ∧ (s.modifyGroups f).doubtful = s.doubtful ∧
    (s.modifyGroups f).down = s.down ∧ (s.modifyGroups f).commonCause = s.commonCause ∧
    (s.modifyGroups f).withheld = s.withheld ∧ (s.modifyGroups f).units = s.units ∧
    (s.modifyGroups f).latches = s.latches ∧ (s.modifyGroups f).noticeMask = s.noticeMask ∧
    (s.modifyGroups f).faultMask = s.faultMask ∧ (s.modifyGroups f).attnN = s.attnN ∧
    (s.modifyGroups f).faultN = s.faultN ∧ (s.modifyGroups f).selfTest = s.selfTest ∧
    (s.modifyGroups f).halted = s.halted ∧ (s.modifyGroups f).freeValues = s.freeValues := by
  simp only [State.modifyGroups, and_self]

@[simp] theorem State.answer_rest (s : State) (code tag : Byte) (o : OutcomeCode) (p : List Byte) :
    (s.answer code tag o p).pending = s.pending ∧ (s.answer code tag o p).resetHeld = s.resetHeld ∧
    (s.answer code tag o p).rx = s.rx ∧ (s.answer code tag o p).buffer = s.buffer ∧
    (s.answer code tag o p).ready = s.ready ∧ (s.answer code tag o p).slots = s.slots ∧
    (s.answer code tag o p).index = s.index ∧ (s.answer code tag o p).free = s.free ∧
    (s.answer code tag o p).lists = s.lists ∧ (s.answer code tag o p).unattributed = s.unattributed ∧
    (s.answer code tag o p).occupancy = s.occupancy ∧ (s.answer code tag o p).tableHighArmed = s.tableHighArmed ∧
    (s.answer code tag o p).clock = s.clock ∧ (s.answer code tag o p).prescale = s.prescale ∧
    (s.answer code tag o p).divider = s.divider ∧ (s.answer code tag o p).configuredVpt = s.configuredVpt ∧
    (s.answer code tag o p).timebasePending = s.timebasePending ∧
    (s.answer code tag o p).sweepRunning = s.sweepRunning ∧ (s.answer code tag o p).sweepPosition = s.sweepPosition ∧
    (s.answer code tag o p).effectiveVpt = s.effectiveVpt ∧ (s.answer code tag o p).clamped = s.clamped ∧
    (s.answer code tag o p).pass = s.pass ∧ (s.answer code tag o p).boards = s.boards ∧
    (s.answer code tag o p).testRecord = s.testRecord ∧ (s.answer code tag o p).effWeights = s.effWeights ∧
    (s.answer code tag o p).effThresholds = s.effThresholds ∧ (s.answer code tag o p).lines = s.lines ∧
    (s.answer code tag o p).active = s.active ∧ (s.answer code tag o p).doubtful = s.doubtful ∧
    (s.answer code tag o p).down = s.down ∧ (s.answer code tag o p).commonCause = s.commonCause ∧
    (s.answer code tag o p).withheld = s.withheld ∧ (s.answer code tag o p).units = s.units ∧
    (s.answer code tag o p).latches = s.latches ∧ (s.answer code tag o p).noticeMask = s.noticeMask ∧
    (s.answer code tag o p).faultMask = s.faultMask ∧ (s.answer code tag o p).attnN = s.attnN ∧
    (s.answer code tag o p).faultN = s.faultN ∧ (s.answer code tag o p).groups = s.groups ∧
    (s.answer code tag o p).selfTest = s.selfTest ∧ (s.answer code tag o p).halted = s.halted ∧
    (s.answer code tag o p).freeValues = s.freeValues := by
  simp only [State.answer, and_self]

@[simp] theorem State.driveLines_rest (s : State) :
    (s.driveLines).pending = s.pending ∧ (s.driveLines).resetHeld = s.resetHeld ∧ (s.driveLines).rx = s.rx ∧
    (s.driveLines).buffer = s.buffer ∧ (s.driveLines).tx = s.tx ∧ (s.driveLines).ready = s.ready ∧
    (s.driveLines).slots = s.slots ∧ (s.driveLines).index = s.index ∧ (s.driveLines).free = s.free ∧
    (s.driveLines).lists = s.lists ∧ (s.driveLines).unattributed = s.unattributed ∧
    (s.driveLines).occupancy = s.occupancy ∧ (s.driveLines).tableHighArmed = s.tableHighArmed ∧
    (s.driveLines).clock = s.clock ∧ (s.driveLines).prescale = s.prescale ∧ (s.driveLines).divider = s.divider ∧
    (s.driveLines).configuredVpt = s.configuredVpt ∧ (s.driveLines).timebasePending = s.timebasePending ∧
    (s.driveLines).sweepRunning = s.sweepRunning ∧ (s.driveLines).sweepPosition = s.sweepPosition ∧
    (s.driveLines).effectiveVpt = s.effectiveVpt ∧ (s.driveLines).clamped = s.clamped ∧ (s.driveLines).pass = s.pass ∧
    (s.driveLines).boards = s.boards ∧ (s.driveLines).testRecord = s.testRecord ∧
    (s.driveLines).effWeights = s.effWeights ∧ (s.driveLines).effThresholds = s.effThresholds ∧
    (s.driveLines).lines = s.lines ∧ (s.driveLines).active = s.active ∧ (s.driveLines).doubtful = s.doubtful ∧
    (s.driveLines).down = s.down ∧ (s.driveLines).commonCause = s.commonCause ∧ (s.driveLines).withheld = s.withheld ∧
    (s.driveLines).units = s.units ∧ (s.driveLines).latches = s.latches ∧ (s.driveLines).noticeMask = s.noticeMask ∧
    (s.driveLines).faultMask = s.faultMask ∧ (s.driveLines).groups = s.groups ∧ (s.driveLines).selfTest = s.selfTest ∧
    (s.driveLines).halted = s.halted ∧ (s.driveLines).freeValues = s.freeValues := by
  simp only [State.driveLines, and_self]

@[simp] theorem State.driveReady_rest (s : State) :
    (s.driveReady).pending = s.pending ∧ (s.driveReady).resetHeld = s.resetHeld ∧ (s.driveReady).rx = s.rx ∧
    (s.driveReady).buffer = s.buffer ∧ (s.driveReady).tx = s.tx ∧ (s.driveReady).slots = s.slots ∧
    (s.driveReady).index = s.index ∧ (s.driveReady).free = s.free ∧ (s.driveReady).lists = s.lists ∧
    (s.driveReady).unattributed = s.unattributed ∧ (s.driveReady).occupancy = s.occupancy ∧
    (s.driveReady).tableHighArmed = s.tableHighArmed ∧ (s.driveReady).clock = s.clock ∧
    (s.driveReady).prescale = s.prescale ∧ (s.driveReady).divider = s.divider ∧
    (s.driveReady).configuredVpt = s.configuredVpt ∧ (s.driveReady).timebasePending = s.timebasePending ∧
    (s.driveReady).sweepRunning = s.sweepRunning ∧ (s.driveReady).sweepPosition = s.sweepPosition ∧
    (s.driveReady).effectiveVpt = s.effectiveVpt ∧ (s.driveReady).clamped = s.clamped ∧ (s.driveReady).pass = s.pass ∧
    (s.driveReady).boards = s.boards ∧ (s.driveReady).testRecord = s.testRecord ∧
    (s.driveReady).effWeights = s.effWeights ∧ (s.driveReady).effThresholds = s.effThresholds ∧
    (s.driveReady).lines = s.lines ∧ (s.driveReady).active = s.active ∧ (s.driveReady).doubtful = s.doubtful ∧
    (s.driveReady).down = s.down ∧ (s.driveReady).commonCause = s.commonCause ∧ (s.driveReady).withheld = s.withheld ∧
    (s.driveReady).units = s.units ∧ (s.driveReady).latches = s.latches ∧ (s.driveReady).noticeMask = s.noticeMask ∧
    (s.driveReady).faultMask = s.faultMask ∧ (s.driveReady).attnN = s.attnN ∧ (s.driveReady).faultN = s.faultN ∧
    (s.driveReady).groups = s.groups ∧ (s.driveReady).selfTest = s.selfTest ∧ (s.driveReady).halted = s.halted ∧
    (s.driveReady).freeValues = s.freeValues := by
  simp only [State.driveReady, and_self]

@[simp] theorem State.dropIndexOf_rest (s : State) (n : Nat) :
    (s.dropIndexOf n).pending = s.pending ∧ (s.dropIndexOf n).resetHeld = s.resetHeld ∧ (s.dropIndexOf n).rx = s.rx ∧
    (s.dropIndexOf n).buffer = s.buffer ∧ (s.dropIndexOf n).tx = s.tx ∧ (s.dropIndexOf n).ready = s.ready ∧
    (s.dropIndexOf n).slots = s.slots ∧ (s.dropIndexOf n).free = s.free ∧ (s.dropIndexOf n).lists = s.lists ∧
    (s.dropIndexOf n).unattributed = s.unattributed ∧ (s.dropIndexOf n).occupancy = s.occupancy ∧
    (s.dropIndexOf n).tableHighArmed = s.tableHighArmed ∧ (s.dropIndexOf n).clock = s.clock ∧
    (s.dropIndexOf n).prescale = s.prescale ∧ (s.dropIndexOf n).divider = s.divider ∧
    (s.dropIndexOf n).configuredVpt = s.configuredVpt ∧ (s.dropIndexOf n).timebasePending = s.timebasePending ∧
    (s.dropIndexOf n).sweepRunning = s.sweepRunning ∧ (s.dropIndexOf n).sweepPosition = s.sweepPosition ∧
    (s.dropIndexOf n).effectiveVpt = s.effectiveVpt ∧ (s.dropIndexOf n).clamped = s.clamped ∧
    (s.dropIndexOf n).pass = s.pass ∧ (s.dropIndexOf n).boards = s.boards ∧
    (s.dropIndexOf n).testRecord = s.testRecord ∧ (s.dropIndexOf n).effWeights = s.effWeights ∧
    (s.dropIndexOf n).effThresholds = s.effThresholds ∧ (s.dropIndexOf n).lines = s.lines ∧
    (s.dropIndexOf n).active = s.active ∧ (s.dropIndexOf n).doubtful = s.doubtful ∧ (s.dropIndexOf n).down = s.down ∧
    (s.dropIndexOf n).commonCause = s.commonCause ∧ (s.dropIndexOf n).withheld = s.withheld ∧
    (s.dropIndexOf n).units = s.units ∧ (s.dropIndexOf n).latches = s.latches ∧
    (s.dropIndexOf n).noticeMask = s.noticeMask ∧ (s.dropIndexOf n).faultMask = s.faultMask ∧
    (s.dropIndexOf n).attnN = s.attnN ∧ (s.dropIndexOf n).faultN = s.faultN ∧ (s.dropIndexOf n).groups = s.groups ∧
    (s.dropIndexOf n).selfTest = s.selfTest ∧ (s.dropIndexOf n).halted = s.halted ∧
    (s.dropIndexOf n).freeValues = s.freeValues := by
  simp only [State.dropIndexOf, and_self]

@[simp] theorem State.setUnit_rest (s : State) (u : Fin 4) (w : WatchUnit) :
    (s.setUnit u w).pending = s.pending ∧ (s.setUnit u w).resetHeld = s.resetHeld ∧ (s.setUnit u w).rx = s.rx ∧
    (s.setUnit u w).buffer = s.buffer ∧ (s.setUnit u w).tx = s.tx ∧ (s.setUnit u w).ready = s.ready ∧
    (s.setUnit u w).slots = s.slots ∧ (s.setUnit u w).index = s.index ∧ (s.setUnit u w).free = s.free ∧
    (s.setUnit u w).lists = s.lists ∧ (s.setUnit u w).unattributed = s.unattributed ∧
    (s.setUnit u w).occupancy = s.occupancy ∧ (s.setUnit u w).tableHighArmed = s.tableHighArmed ∧
    (s.setUnit u w).clock = s.clock ∧ (s.setUnit u w).prescale = s.prescale ∧ (s.setUnit u w).divider = s.divider ∧
    (s.setUnit u w).configuredVpt = s.configuredVpt ∧ (s.setUnit u w).timebasePending = s.timebasePending ∧
    (s.setUnit u w).sweepRunning = s.sweepRunning ∧ (s.setUnit u w).sweepPosition = s.sweepPosition ∧
    (s.setUnit u w).effectiveVpt = s.effectiveVpt ∧ (s.setUnit u w).clamped = s.clamped ∧
    (s.setUnit u w).pass = s.pass ∧ (s.setUnit u w).boards = s.boards ∧ (s.setUnit u w).testRecord = s.testRecord ∧
    (s.setUnit u w).effWeights = s.effWeights ∧ (s.setUnit u w).effThresholds = s.effThresholds ∧
    (s.setUnit u w).lines = s.lines ∧ (s.setUnit u w).active = s.active ∧ (s.setUnit u w).doubtful = s.doubtful ∧
    (s.setUnit u w).down = s.down ∧ (s.setUnit u w).commonCause = s.commonCause ∧
    (s.setUnit u w).withheld = s.withheld ∧ (s.setUnit u w).latches = s.latches ∧
    (s.setUnit u w).noticeMask = s.noticeMask ∧ (s.setUnit u w).faultMask = s.faultMask ∧
    (s.setUnit u w).attnN = s.attnN ∧ (s.setUnit u w).faultN = s.faultN ∧ (s.setUnit u w).groups = s.groups ∧
    (s.setUnit u w).selfTest = s.selfTest ∧ (s.setUnit u w).halted = s.halted ∧
    (s.setUnit u w).freeValues = s.freeValues := by
  simp only [State.setUnit, and_self]

@[simp] theorem State.tick_rest (s : State) :
    (s.tick).pending = s.pending ∧ (s.tick).resetHeld = s.resetHeld ∧ (s.tick).rx = s.rx ∧
    (s.tick).buffer = s.buffer ∧ (s.tick).tx = s.tx ∧ (s.tick).ready = s.ready ∧ (s.tick).slots = s.slots ∧
    (s.tick).index = s.index ∧ (s.tick).free = s.free ∧ (s.tick).lists = s.lists ∧
    (s.tick).unattributed = s.unattributed ∧ (s.tick).occupancy = s.occupancy ∧
    (s.tick).tableHighArmed = s.tableHighArmed ∧ (s.tick).prescale = s.prescale ∧ (s.tick).divider = s.divider ∧
    (s.tick).configuredVpt = s.configuredVpt ∧ (s.tick).timebasePending = s.timebasePending ∧
    (s.tick).sweepRunning = s.sweepRunning ∧ (s.tick).sweepPosition = s.sweepPosition ∧
    (s.tick).effectiveVpt = s.effectiveVpt ∧ (s.tick).clamped = s.clamped ∧ (s.tick).pass = s.pass ∧
    (s.tick).boards = s.boards ∧ (s.tick).testRecord = s.testRecord ∧ (s.tick).effWeights = s.effWeights ∧
    (s.tick).effThresholds = s.effThresholds ∧ (s.tick).lines = s.lines ∧ (s.tick).active = s.active ∧
    (s.tick).doubtful = s.doubtful ∧ (s.tick).down = s.down ∧ (s.tick).commonCause = s.commonCause ∧
    (s.tick).withheld = s.withheld ∧ (s.tick).units = s.units ∧ (s.tick).latches = s.latches ∧
    (s.tick).noticeMask = s.noticeMask ∧ (s.tick).faultMask = s.faultMask ∧ (s.tick).attnN = s.attnN ∧
    (s.tick).faultN = s.faultN ∧ (s.tick).groups = s.groups ∧ (s.tick).selfTest = s.selfTest ∧
    (s.tick).halted = s.halted ∧ (s.tick).freeValues = s.freeValues := by
  simp only [State.tick, and_self]

/-! ## What is read after an update of something else -/

@[simp] theorem State.modifyBoard_reads (s : State) (b : Bd) (f : Board → Board) :
    (∀ z, (s.modifyBoard b f).line z = s.line z) ∧ (∀ z, (s.modifyBoard b f).cause z = s.cause z) ∧
    (∀ z, (s.modifyBoard b f).list z = s.list z) ∧ (∀ z, (s.modifyBoard b f).unit z = s.unit z) ∧
    (∀ z, (s.modifyBoard b f).slot z = s.slot z) ∧ (∀ z, (s.modifyBoard b f).lookupKey z = s.lookupKey z) := by
  refine ⟨fun _ => rfl, fun _ => rfl, fun _ => rfl, fun _ => rfl, fun _ => rfl, fun _ => rfl⟩

@[simp] theorem State.modifyLine_reads (s : State) (b : Bd) (f : Line → Line) :
    (∀ z, (s.modifyLine b f).board z = s.board z) ∧ (∀ z, (s.modifyLine b f).cause z = s.cause z) ∧
    (∀ z, (s.modifyLine b f).list z = s.list z) ∧ (∀ z, (s.modifyLine b f).unit z = s.unit z) ∧
    (∀ z, (s.modifyLine b f).slot z = s.slot z) ∧ (∀ z, (s.modifyLine b f).lookupKey z = s.lookupKey z) := by
  refine ⟨fun _ => rfl, fun _ => rfl, fun _ => rfl, fun _ => rfl, fun _ => rfl, fun _ => rfl⟩

@[simp] theorem State.setCause_reads (s : State) (b : Bd) (c : Option Cause) :
    (∀ z, (s.setCause b c).board z = s.board z) ∧ (∀ z, (s.setCause b c).line z = s.line z) ∧
    (∀ z, (s.setCause b c).list z = s.list z) ∧ (∀ z, (s.setCause b c).unit z = s.unit z) ∧
    (∀ z, (s.setCause b c).slot z = s.slot z) ∧ (∀ z, (s.setCause b c).lookupKey z = s.lookupKey z) := by
  refine ⟨fun _ => rfl, fun _ => rfl, fun _ => rfl, fun _ => rfl, fun _ => rfl, fun _ => rfl⟩

@[simp] theorem State.setList_reads (s : State) (b : Bd) (l : List Nat) :
    (∀ z, (s.setList b l).board z = s.board z) ∧ (∀ z, (s.setList b l).line z = s.line z) ∧
    (∀ z, (s.setList b l).cause z = s.cause z) ∧ (∀ z, (s.setList b l).unit z = s.unit z) ∧
    (∀ z, (s.setList b l).slot z = s.slot z) ∧ (∀ z, (s.setList b l).lookupKey z = s.lookupKey z) := by
  refine ⟨fun _ => rfl, fun _ => rfl, fun _ => rfl, fun _ => rfl, fun _ => rfl, fun _ => rfl⟩

@[simp] theorem State.setSlot_reads (s : State) (n : Nat) (x : Slot) :
    (∀ z, (s.setSlot n x).board z = s.board z) ∧ (∀ z, (s.setSlot n x).line z = s.line z) ∧
    (∀ z, (s.setSlot n x).cause z = s.cause z) ∧ (∀ z, (s.setSlot n x).list z = s.list z) ∧
    (∀ z, (s.setSlot n x).unit z = s.unit z) ∧ (∀ z, (s.setSlot n x).lookupKey z = s.lookupKey z) := by
  refine ⟨fun _ => rfl, fun _ => rfl, fun _ => rfl, fun _ => rfl, fun _ => rfl, fun _ => rfl⟩

@[simp] theorem State.modifyLatches_reads (s : State) (f : Latches → Latches) :
    (∀ z, (s.modifyLatches f).board z = s.board z) ∧ (∀ z, (s.modifyLatches f).line z = s.line z) ∧
    (∀ z, (s.modifyLatches f).cause z = s.cause z) ∧ (∀ z, (s.modifyLatches f).list z = s.list z) ∧
    (∀ z, (s.modifyLatches f).unit z = s.unit z) ∧ (∀ z, (s.modifyLatches f).slot z = s.slot z) ∧
    (∀ z, (s.modifyLatches f).lookupKey z = s.lookupKey z) := by
  refine ⟨fun _ => rfl, fun _ => rfl, fun _ => rfl, fun _ => rfl, fun _ => rfl, fun _ => rfl, fun _ => rfl⟩

@[simp] theorem State.answer_reads (s : State) (code tag : Byte) (o : OutcomeCode) (p : List Byte) :
    (∀ z, (s.answer code tag o p).board z = s.board z) ∧ (∀ z, (s.answer code tag o p).line z = s.line z) ∧
    (∀ z, (s.answer code tag o p).cause z = s.cause z) ∧ (∀ z, (s.answer code tag o p).list z = s.list z) ∧
    (∀ z, (s.answer code tag o p).unit z = s.unit z) ∧ (∀ z, (s.answer code tag o p).slot z = s.slot z) ∧
    (∀ z, (s.answer code tag o p).lookupKey z = s.lookupKey z) := by
  refine ⟨fun _ => rfl, fun _ => rfl, fun _ => rfl, fun _ => rfl, fun _ => rfl, fun _ => rfl, fun _ => rfl⟩

@[simp] theorem State.driveLines_reads (s : State) :
    (∀ z, (s.driveLines).board z = s.board z) ∧ (∀ z, (s.driveLines).line z = s.line z) ∧
    (∀ z, (s.driveLines).cause z = s.cause z) ∧ (∀ z, (s.driveLines).list z = s.list z) ∧
    (∀ z, (s.driveLines).unit z = s.unit z) ∧ (∀ z, (s.driveLines).slot z = s.slot z) ∧
    (∀ z, (s.driveLines).lookupKey z = s.lookupKey z) := by
  refine ⟨fun _ => rfl, fun _ => rfl, fun _ => rfl, fun _ => rfl, fun _ => rfl, fun _ => rfl, fun _ => rfl⟩

@[simp] theorem State.driveReady_reads (s : State) :
    (∀ z, (s.driveReady).board z = s.board z) ∧ (∀ z, (s.driveReady).line z = s.line z) ∧
    (∀ z, (s.driveReady).cause z = s.cause z) ∧ (∀ z, (s.driveReady).list z = s.list z) ∧
    (∀ z, (s.driveReady).unit z = s.unit z) ∧ (∀ z, (s.driveReady).slot z = s.slot z) ∧
    (∀ z, (s.driveReady).lookupKey z = s.lookupKey z) := by
  refine ⟨fun _ => rfl, fun _ => rfl, fun _ => rfl, fun _ => rfl, fun _ => rfl, fun _ => rfl, fun _ => rfl⟩

@[simp] theorem State.dropIndexOf_reads (s : State) (n : Nat) :
    (∀ z, (s.dropIndexOf n).board z = s.board z) ∧ (∀ z, (s.dropIndexOf n).line z = s.line z) ∧
    (∀ z, (s.dropIndexOf n).cause z = s.cause z) ∧ (∀ z, (s.dropIndexOf n).list z = s.list z) ∧
    (∀ z, (s.dropIndexOf n).unit z = s.unit z) ∧ (∀ z, (s.dropIndexOf n).slot z = s.slot z) := by
  refine ⟨fun _ => rfl, fun _ => rfl, fun _ => rfl, fun _ => rfl, fun _ => rfl, fun _ => rfl⟩

@[simp] theorem State.setUnit_reads (s : State) (u : Fin 4) (w : WatchUnit) :
    (∀ z, (s.setUnit u w).board z = s.board z) ∧ (∀ z, (s.setUnit u w).line z = s.line z) ∧
    (∀ z, (s.setUnit u w).cause z = s.cause z) ∧ (∀ z, (s.setUnit u w).list z = s.list z) ∧
    (∀ z, (s.setUnit u w).slot z = s.slot z) ∧ (∀ z, (s.setUnit u w).lookupKey z = s.lookupKey z) := by
  refine ⟨fun _ => rfl, fun _ => rfl, fun _ => rfl, fun _ => rfl, fun _ => rfl, fun _ => rfl⟩

end Sys2Proof.Machine
end

