-- ==== Sys2Proof/Laws/Maps.lean ====
section
/-! SUPPORT. The stores: what a sorted map holds after each of its operations, that every operation keeps the canonical form,
and the reads of slots, index, lists, boards, lines and causes after their own updates. -/

namespace Sys2Proof.Machine

/-! ## Maps -/

theorem mapFind_mapPut {α : Type} (k n : Nat) (a : α) (m : List (Nat × α)) :
    mapFind n (mapPut k a m) = if n = k then some a else mapFind n m := by
  induction m with
  | nil =>
    by_cases h : k = n
    · subst h; simp [mapPut, mapFind]
    · simp [mapPut, mapFind, h, Ne.symm h]
  | cons e m ih =>
    obtain ⟨j, b⟩ := e
    unfold mapPut
    split_ifs with h1 h2 h3 h4 <;> simp only [mapFind, ih] <;> split_ifs <;> first | rfl | omega

theorem mapFind_mapRemove {α : Type} (k n : Nat) (m : List (Nat × α)) :
    mapFind n (mapRemove k m) = if n = k then none else mapFind n m := by
  induction m with
  | nil => simp [mapRemove, mapFind]
  | cons e m ih =>
    obtain ⟨j, b⟩ := e
    simp only [mapRemove, List.filter_cons] at ih ⊢
    by_cases hj : j = k
    · subst hj
      simp only [bne_self_eq_false, Bool.false_eq_true, if_false, ih, mapFind]
      split_ifs <;> first | rfl | omega
    · have : (j != k) = true := by simpa using hj
      simp only [this, if_true, mapFind, ih]
      split_ifs <;> first | rfl | omega

/-- Everything a canonical map holds above a bound. -/
theorem mapFind_none_of_below {α : Type} (n : Nat) (m : List (Nat × α)) (h : ∀ e ∈ m, n < e.1) : mapFind n m = none := by
  induction m with
  | nil => rfl
  | cons e m ih =>
    have h1 := h e (by simp)
    simp only [mapFind]
    rw [if_neg (by omega), ih (fun x hx => h x (List.mem_cons_of_mem _ hx))]

theorem mapWf_cons {α : Type} (e : Nat × α) (m : List (Nat × α)) :
    mapWf (e :: m) = true ↔ (∀ x ∈ m, e.1 < x.1) ∧ mapWf m = true := by
  simp [mapWf, List.all_eq_true]

theorem mapWf_filter {α : Type} (p : Nat × α → Bool) (m : List (Nat × α)) (h : mapWf m = true) :
    mapWf (m.filter p) = true := by
  induction m with
  | nil => rfl
  | cons e m ih =>
    rw [mapWf_cons] at h
    rw [List.filter_cons]
    split_ifs
    · exact (mapWf_cons _ _).2 ⟨fun x hx => h.1 x (List.mem_of_mem_filter hx), ih h.2⟩
    · exact ih h.2

theorem mapWf_mapRemove {α : Type} (k : Nat) (m : List (Nat × α)) (h : mapWf m = true) : mapWf (mapRemove k m) = true :=
  mapWf_filter _ m h

theorem mem_mapPut {α : Type} (k : Nat) (a : α) (m : List (Nat × α)) (x : Nat × α) (hx : x ∈ mapPut k a m) :
    x = (k, a) ∨ x ∈ m := by
  induction m with
  | nil => simpa [mapPut] using hx
  | cons e m ih =>
    obtain ⟨j, b⟩ := e
    unfold mapPut at hx
    split_ifs at hx with h1 h2
    · simpa using hx
    · rcases List.mem_cons.1 hx with h | h
      · exact Or.inl h
      · exact Or.inr (List.mem_cons_of_mem _ h)
    · rcases List.mem_cons.1 hx with h | h
      · exact Or.inr (by simp [h])
      · rcases ih h with h | h
        · exact Or.inl h
        · exact Or.inr (List.mem_cons_of_mem _ h)

theorem mapWf_mapPut {α : Type} (k : Nat) (a : α) (m : List (Nat × α)) (h : mapWf m = true) : mapWf (mapPut k a m) = true := by
  induction m with
  | nil => simp [mapPut, mapWf]
  | cons e m ih =>
    obtain ⟨j, b⟩ := e
    have hm := (mapWf_cons _ _).1 h
    unfold mapPut
    split_ifs with h1 h2
    · refine (mapWf_cons _ _).2 ⟨fun x hx => ?_, h⟩
      rcases List.mem_cons.1 hx with hx | hx
      · simpa [hx] using h1
      · exact lt_trans h1 (hm.1 x hx)
    · subst h2
      exact (mapWf_cons _ _).2 hm
    · refine (mapWf_cons _ _).2 ⟨fun x hx => ?_, ih hm.2⟩
      rcases mem_mapPut k a m x hx with hx | hx
      · subst hx; simp; omega
      · exact hm.1 x hx

/-- A filter by value: what is found is found still, if it passes. -/
theorem mapFind_filter {α : Type} (p : α → Bool) (k : Nat) (m : List (Nat × α)) (h : mapWf m = true) :
    mapFind k (m.filter fun e => p e.2) = (mapFind k m).filter p := by
  induction m with
  | nil => rfl
  | cons e m ih =>
    obtain ⟨j, b⟩ := e
    have hm := (mapWf_cons _ _).1 h
    rw [List.filter_cons]
    by_cases hj : j = k
    · subst hj
      by_cases hp : p b = true
      · simp [mapFind, hp, Option.filter]
      · have hn := mapFind_none_of_below j m hm.1
        simp only [hp, Bool.false_eq_true, if_false, ih hm.2, hn, mapFind, if_true]
        simp [hp, Option.filter]
    · split_ifs <;> simp [mapFind, hj, ih hm.2]

theorem mem_insertAscending (n m : Nat) (l : List Nat) : m ∈ insertAscending n l ↔ m = n ∨ m ∈ l := by
  induction l with
  | nil => simp [insertAscending]
  | cons a l ih =>
    unfold insertAscending
    split_ifs with h1 h2
    · simp
    · subst h2; simp
    · simp only [List.mem_cons, ih]; tauto

theorem pairwise_insertAscending (n : Nat) (l : List Nat) (h : l.Pairwise (· < ·)) :
    (insertAscending n l).Pairwise (· < ·) := by
  induction l with
  | nil => simp [insertAscending]
  | cons a l ih =>
    have ha := List.pairwise_cons.1 h
    unfold insertAscending
    split_ifs with h1 h2
    · refine List.pairwise_cons.2 ⟨fun x hx => ?_, h⟩
      rcases List.mem_cons.1 hx with hx | hx
      · omega
      · exact lt_trans h1 (ha.1 x hx)
    · exact h
    · refine List.pairwise_cons.2 ⟨fun x hx => ?_, ih ha.2⟩
      rcases (mem_insertAscending n x l).1 hx with hx | hx
      · omega
      · exact ha.1 x hx

/-! ## The free list after a reset -/

theorem slotsFrom_eq (lo n : Nat) : slotsFrom lo n = List.range' lo n := by
  induction n generalizing lo with
  | zero => rfl
  | succ n ih => simp [slotsFrom, ih, List.range'_succ]

theorem mem_slotsFrom (lo n k : Nat) : k ∈ slotsFrom lo n ↔ lo ≤ k ∧ k < lo + n := by
  simp [slotsFrom_eq, List.mem_range'_1]

theorem nodup_slotsFrom (lo n : Nat) : (slotsFrom lo n).Nodup := by
  rw [slotsFrom_eq]; exact List.nodup_range'

theorem length_slotsFrom (lo n : Nat) : (slotsFrom lo n).length = n := by
  simp [slotsFrom_eq]

/-! ## Reads after their own update -/

@[simp] theorem State.slot_setSlot (s : State) (n m : Nat) (x : Slot) :
    (s.setSlot n x).slot m = if m = n then some x else s.slot m := mapFind_mapPut n m x s.slots

@[simp] theorem State.slot_writeRecord (s : State) (n m : Nat) (st : Stage) (b : Bd) (p : Payload) :
    (s.writeRecord n st b p).slot m = if m = n then some (.record st b p (parityOf p)) else s.slot m :=
  s.slot_setSlot n m _

@[simp] theorem readsClean_parityOf (p : Payload) : readsClean p (parityOf p) = true := by simp [readsClean]

@[simp] theorem State.board_modifyBoard (s : State) (b c : Bd) (f : Board → Board) :
    (s.modifyBoard b f).board c = if c = b then f (s.board b) else s.board c := by
  by_cases h : c = b
  · subst h; simp [State.board, State.modifyBoard]
  · simp [State.board, State.modifyBoard, h, Fin.val_inj, Ne.symm h]

@[simp] theorem State.line_modifyLine (s : State) (b c : Bd) (f : Line → Line) :
    (s.modifyLine b f).line c = if c = b then f (s.line b) else s.line c := by
  by_cases h : c = b
  · subst h; simp [State.line, State.modifyLine]
  · simp [State.line, State.modifyLine, h, Fin.val_inj, Ne.symm h]

@[simp] theorem State.cause_setCause (s : State) (b c : Bd) (x : Option Cause) :
    (s.setCause b x).cause c = if c = b then x else s.cause c := by
  by_cases h : c = b
  · subst h; simp [State.cause, State.setCause]
  · simp [State.cause, State.setCause, h, Fin.val_inj, Ne.symm h]

@[simp] theorem State.list_setList (s : State) (b c : Bd) (l : List Nat) :
    (s.setList b l).list c = if c = b then l else s.list c := by
  by_cases h : c = b
  · subst h; simp [State.list, State.setList]
  · simp [State.list, State.setList, h, Fin.val_inj, Ne.symm h]

@[simp] theorem State.unit_setUnit (s : State) (u v : Fin 4) (w : WatchUnit) :
    (s.setUnit u w).unit v = if v = u then w else s.unit v := by
  by_cases h : v = u
  · subst h; simp [State.unit, State.setUnit]
  · simp [State.unit, State.setUnit, h, Fin.val_inj, Ne.symm h]

@[simp] theorem State.tx_answer (s : State) (code tag : Byte) (o : OutcomeCode) (p : List Byte) :
    (s.answer code tag o p).tx = s.tx ++ [⟨code, tag, o, p⟩] := rfl

theorem toBd_some (x : Byte) (b : Bd) : toBd x = some b ↔ x.toNat = b.val := by
  unfold toBd
  split_ifs with h
  · simp [Fin.ext_iff]
  · simp; have := b.isLt; omega

theorem toBd_none (x : Byte) : toBd x = none ↔ 32 ≤ x.toNat := by
  unfold toBd
  split_ifs with h <;> simp <;> omega

theorem mem_allBoards (b : Bd) : b ∈ allBoards := by
  revert b; decide

end Sys2Proof.Machine
end

