-- ==== Sys2Proof/Laws/Verdict.lean ====
section
/-! SUPPORT. What the Verdict Unit's operations can do: each stays within VerdictFrame, a grant changes one board, and a
reconsideration changes pending boards alone and ends with the pending set empty or a condition failing. -/

namespace Sys2Proof.Machine

/-! ## VerdictFrame -/

theorem VerdictFrame.refl (s : State) : VerdictFrame s s := rfl

theorem VerdictFrame.trans {s t u : State} (h : VerdictFrame s t) (k : VerdictFrame t u) : VerdictFrame s u := by
  unfold VerdictFrame at *
  rw [State.mk.injEq] at *
  simp_all

/-- Every field that VerdictFrame keeps. -/
theorem VerdictFrame.keeps {s t : State} (h : VerdictFrame s t) :
    t.pending = s.pending ∧ t.resetHeld = s.resetHeld ∧ t.rx = s.rx ∧ t.buffer = s.buffer ∧ t.tx = s.tx
      ∧ t.ready = s.ready ∧ t.free = s.free ∧ t.lists = s.lists ∧ t.unattributed = s.unattributed
      ∧ t.occupancy = s.occupancy ∧ t.tableHighArmed = s.tableHighArmed ∧ t.clock = s.clock ∧ t.pass = s.pass
      ∧ t.sweepPosition = s.sweepPosition ∧ t.effWeights = s.effWeights ∧ t.effThresholds = s.effThresholds
      ∧ t.units = s.units ∧ t.noticeMask = s.noticeMask ∧ t.faultMask = s.faultMask ∧ t.groups = s.groups
      ∧ t.selfTest = s.selfTest ∧ t.testRecord = s.testRecord ∧ t.freeValues = s.freeValues ∧ t.attnN = s.attnN
      ∧ t.faultN = s.faultN := by
  unfold VerdictFrame at h
  rw [State.mk.injEq] at h
  simp_all

theorem frame_modifyBoard (s : State) (b : Bd) (f : Board → Board) : VerdictFrame s (s.modifyBoard b f) := rfl

theorem frame_modifyLine (s : State) (b : Bd) (f : Line → Line) : VerdictFrame s (s.modifyLine b f) := rfl

theorem frame_setCause (s : State) (b : Bd) (c : Option Cause) : VerdictFrame s (s.setCause b c) := rfl

theorem frame_setSlot (s : State) (n : Nat) (x : Slot) : VerdictFrame s (s.setSlot n x) := rfl

theorem frame_dropIndexOf (s : State) (n : Nat) : VerdictFrame s (s.dropIndexOf n) := rfl

theorem frame_modifyLatches (s : State) (f : Latches → Latches) : VerdictFrame s (s.modifyLatches f) := rfl

theorem frame_enterHalted (s : State) (w : Structure) : VerdictFrame s (s.enterHalted w) := rfl

theorem frame_damageRecord (s : State) (n : Nat) (b : Bd) (p : Payload) (q : Bool) :
    VerdictFrame s (s.damageRecord n b p q) := rfl

theorem frame_reevaluateCommon (s : State) : VerdictFrame s s.reevaluateCommon := by
  unfold State.reevaluateCommon
  split
  · exact VerdictFrame.refl s
  · rfl

theorem frame_reportState (s : State) (old new : BoardState) : VerdictFrame s (s.reportState old new) := by
  unfold State.reportState
  dsimp only
  split
  · rfl
  · refine VerdictFrame.trans ?_ (frame_reevaluateCommon _)
    rfl

theorem frame_setBoardState (s : State) (b : Bd) (new : BoardState) : VerdictFrame s (s.setBoardState b new) :=
  (frame_modifyBoard s b _).trans (frame_reportState _ _ _)

theorem frame_offer (s : State) (e : WatchEvent) (n : Nat) (b : Bd) (k : Key) (w : BitVec 4) :
    VerdictFrame s (s.offer e n b k w) := by
  unfold State.offer
  generalize allUnits = us
  induction us generalizing s with
  | nil => exact VerdictFrame.refl s
  | cons u us ih =>
    simp only [List.foldl_cons]
    split
    · exact (frame_modifyLatches s _).trans (ih _)
    · exact ih _

theorem frame_holdWalk (b : Bd) (l : List Nat) (s : State) : VerdictFrame s (State.holdWalk b l s).1 := by
  induction l generalizing s with
  | nil => exact VerdictFrame.refl s
  | cons n l ih =>
    unfold State.holdWalk
    split
    · split
      · split
        · exact (frame_offer s _ _ _ _ _).trans (ih _)
        · exact (frame_damageRecord s n b _ _).trans (ih _)
      all_goals exact ih s
    · exact frame_enterHalted s _

theorem frame_holdRecords (s : State) (b : Bd) : VerdictFrame s (s.holdRecords b) := by
  unfold State.holdRecords
  have h := frame_holdWalk b (s.list b) s
  dsimp only
  split
  · exact h
  · split
    · exact h.trans (frame_enterHalted _ _)
    · split
      · exact h.trans (frame_setBoardState _ _ _)
      · exact h

theorem frame_silence (s : State) (b : Bd) : VerdictFrame s (s.silence b) := rfl

theorem frame_grantVerdict (s : State) (b : Bd) (p : VerdictPath) : VerdictFrame s (s.grantVerdict b p) :=
  (((frame_silence s b).trans (frame_reportState _ _ _)).trans (frame_modifyLatches _ _)).trans (frame_holdRecords _ _)

theorem frame_withhold (s : State) (b : Bd) (c : Cause) : VerdictFrame s (s.withhold b c) := rfl

theorem frame_clearPending (s : State) (b : Bd) : VerdictFrame s (s.clearPending b) := rfl

theorem frame_recordCauses (s : State) (c : Cause) : VerdictFrame s (s.recordCauses c) := by
  unfold State.recordCauses
  generalize allBoards = bs
  induction bs generalizing s with
  | nil => exact VerdictFrame.refl s
  | cons b bs ih =>
    simp only [List.foldl_cons]
    split
    · exact ((frame_setCause s b _).trans (frame_modifyLatches _ _)).trans (ih _)
    · exact ih _

theorem frame_reconsiderRounds (k : Nat) (s : State) : VerdictFrame s (State.reconsiderRounds k s) := by
  induction k generalizing s with
  | zero => exact VerdictFrame.refl s
  | succ k ih =>
    unfold State.reconsiderRounds
    split
    · exact VerdictFrame.refl s
    · split
      · exact (frame_grantVerdict s _ _).trans (ih _)
      · exact frame_recordCauses s _

theorem frame_reconsider (s : State) : VerdictFrame s s.reconsider := frame_reconsiderRounds 33 s

theorem frame_afterExit (s t : State) : VerdictFrame t (s.afterExit t) := by
  unfold State.afterExit
  split
  · exact frame_reconsider t
  · exact VerdictFrame.refl t

theorem frame_verdictRequest (s : State) (b : Bd) : VerdictFrame s (s.verdictRequest b) := by
  unfold State.verdictRequest
  split
  · exact frame_grantVerdict s b _
  · exact frame_withhold s b _

theorem frame_requestIfDue (s : State) (b : Bd) : VerdictFrame s (s.requestIfDue b) := by
  unfold State.requestIfDue
  split
  · exact frame_verdictRequest s b
  · exact VerdictFrame.refl s

theorem frame_becomeDoubtful (s : State) (b : Bd) (i : DoubtItem) : VerdictFrame s (s.becomeDoubtful b i) :=
  ((frame_setBoardState s b _).trans (frame_modifyLatches _ _)).trans (frame_afterExit _ _)

theorem frame_latchIfHeartbeat (s : State) (b : Bd) (k : Evidence) : VerdictFrame s (s.latchIfHeartbeat b k) := by
  cases k <;> rfl

theorem frame_raiseScore (s : State) (b : Bd) (k : Evidence) : VerdictFrame s (s.raiseScore b k) := rfl

theorem frame_doubtIfAlerted (s : State) (b : Bd) (i : DoubtItem) : VerdictFrame s (s.doubtIfAlerted b i) := by
  unfold State.doubtIfAlerted
  split
  · exact frame_becomeDoubtful s b i
  · exact VerdictFrame.refl s

theorem frame_charge (s : State) (b : Bd) (k : Evidence) : VerdictFrame s (s.charge b k) := by
  have h : VerdictFrame s (s.applyCharge b k) :=
    (((frame_raiseScore s b k).trans (frame_doubtIfAlerted _ _ _)).trans (frame_requestIfDue _ _)).trans
      (frame_latchIfHeartbeat _ _ _)
  unfold State.charge
  split <;> first | exact h | exact VerdictFrame.refl s

theorem frame_leavePendingIfBelow (s : State) (b : Bd) : VerdictFrame s (s.leavePendingIfBelow b) := by
  unfold State.leavePendingIfBelow
  split
  · exact frame_clearPending s b
  · exact VerdictFrame.refl s

theorem frame_backToLive (s : State) (b : Bd) : VerdictFrame s (s.backToLive b) :=
  (frame_setBoardState s b _).trans (frame_afterExit _ _)

theorem frame_settleCredit (s : State) (b : Bd) : VerdictFrame s (s.settleCredit b) := by
  unfold State.settleCredit
  split
  · exact frame_backToLive s b
  · exact VerdictFrame.refl s

theorem frame_credit (s : State) (b : Bd) : VerdictFrame s (s.credit b) :=
  ((frame_modifyBoard s b _).trans (frame_leavePendingIfBelow _ _)).trans (frame_settleCredit _ _)

theorem frame_chargeStage (s : State) (b : Bd) (st : Stage) (j : Judgement) : VerdictFrame s (s.chargeStage b st j) := by
  cases j <;> first | exact VerdictFrame.refl s | exact frame_charge s b _

theorem frame_reevaluateDoubtful (s : State) (b : Bd) : VerdictFrame s (s.reevaluateDoubtful b) := by
  unfold State.reevaluateDoubtful
  split
  · exact frame_backToLive s b
  · exact frame_requestIfDue s b

theorem frame_reevaluateBoard (s : State) (b : Bd) : VerdictFrame s (s.reevaluateBoard b) := by
  unfold State.reevaluateBoard
  split
  · exact (frame_doubtIfAlerted s b _).trans (frame_requestIfDue _ _)
  · exact (frame_leavePendingIfBelow s b).trans (frame_reevaluateDoubtful _ _)
  all_goals exact VerdictFrame.refl s

theorem frame_afterSetgroup (s : State) : VerdictFrame s s.afterSetgroup := by
  unfold State.afterSetgroup
  split
  · exact frame_reconsider s
  · exact VerdictFrame.refl s

end Sys2Proof.Machine
end

