-- ==== Sys2Proof/Laws/Grant.lean ====
section
/-! SUPPORT. What a grant does to the boards, and what a reconsideration does and ends with. -/

namespace Sys2Proof.Machine

/-! ## Operations that leave boards, lines and causes alone -/

@[simp] theorem reevaluateCommon_reads (s : State) :
    (∀ c, s.reevaluateCommon.board c = s.board c) ∧ (∀ c, s.reevaluateCommon.line c = s.line c)
      ∧ (∀ c, s.reevaluateCommon.cause c = s.cause c) ∧ (∀ c, s.reevaluateCommon.list c = s.list c)
      ∧ (∀ n, s.reevaluateCommon.slot n = s.slot n) ∧ s.reevaluateCommon.active = s.active
      ∧ s.reevaluateCommon.doubtful = s.doubtful ∧ s.reevaluateCommon.down = s.down
      ∧ s.reevaluateCommon.commonCause = s.commonNow := by
  unfold State.reevaluateCommon
  split
  · simp_all
  · exact ⟨fun _ => rfl, fun _ => rfl, fun _ => rfl, fun _ => rfl, fun _ => rfl, rfl, rfl, rfl, rfl⟩

@[simp] theorem reportState_reads (s : State) (old new : BoardState) :
    (∀ c, (s.reportState old new).board c = s.board c) ∧ (∀ c, (s.reportState old new).line c = s.line c)
      ∧ (∀ c, (s.reportState old new).cause c = s.cause c) ∧ (∀ c, (s.reportState old new).list c = s.list c)
      ∧ (∀ n, (s.reportState old new).slot n = s.slot n)
      ∧ (s.reportState old new).active = moveCount s.active old.isActive new.isActive
      ∧ (s.reportState old new).doubtful = moveCount s.doubtful old.isDoubtful new.isDoubtful
      ∧ (s.reportState old new).down = moveCount s.down old.isDown new.isDown := by
  unfold State.reportState
  dsimp only
  split
  · exact ⟨fun _ => rfl, fun _ => rfl, fun _ => rfl, fun _ => rfl, fun _ => rfl, rfl, rfl, rfl⟩
  · simp only [reevaluateCommon_reads]
    exact ⟨fun _ => rfl, fun _ => rfl, fun _ => rfl, fun _ => rfl, fun _ => rfl, trivial, trivial, trivial⟩

/-- A move that changes neither the active nor the doubtful count leaves the common-cause state and the latches (R117, R118). -/
theorem reportState_of_sameCounts (s : State) (old new : BoardState) (h : old.sameCounts new = true) :
    s.reportState old new = { s with down := moveCount s.down old.isDown new.isDown } := by
  have ha : old.isActive = new.isActive := by revert h; cases old <;> cases new <;> decide
  have hd : old.isDoubtful = new.isDoubtful := by revert h; cases old <;> cases new <;> decide
  simp [State.reportState, h, moveCount, ha, hd]

/-- A move that changes the active or the doubtful count re-evaluates the common-cause state (R118). -/
theorem reportState_of_newCounts (s : State) (old new : BoardState) (h : old.sameCounts new = false) :
    s.reportState old new =
      ({ s with
        active := moveCount s.active old.isActive new.isActive
        doubtful := moveCount s.doubtful old.isDoubtful new.isDoubtful
        down := moveCount s.down old.isDown new.isDown } : State).reevaluateCommon := by
  simp [State.reportState, h]

/-- One more doubtful board, the active count and CC_PCT as they were, never ends the common-cause state (R118). -/
theorem commonHolds_succ (d a pct : Nat) (h : commonHolds d a pct = true) : commonHolds (d + 1) a pct = true := by
  simp only [commonHolds, Bool.and_eq_true, decide_eq_true_eq] at h ⊢
  omega

/-- The drain of a SILENT board moves its state alone (R123). -/
theorem setBoardState_drained (s : State) (b : Bd) (h : (s.board b).state = .silent) :
    s.setBoardState b .drained = s.modifyBoard b fun x => { x with state := .drained } := by
  unfold State.setBoardState
  rw [h, reportState_of_sameCounts _ _ _ (by decide)]
  rfl

@[simp] theorem setBoardState_reads (s : State) (b : Bd) (new : BoardState) :
    (∀ c, (s.setBoardState b new).board c = if c = b then { s.board b with state := new } else s.board c)
      ∧ (∀ c, (s.setBoardState b new).line c = s.line c) ∧ (∀ c, (s.setBoardState b new).cause c = s.cause c)
      ∧ (∀ c, (s.setBoardState b new).list c = s.list c) ∧ (∀ n, (s.setBoardState b new).slot n = s.slot n) := by
  simp [State.setBoardState]

@[simp] theorem offer_reads (s : State) (e : WatchEvent) (n : Nat) (b : Bd) (k : Key) (w : BitVec 4) :
    (∀ c, (s.offer e n b k w).board c = s.board c) ∧ (∀ c, (s.offer e n b k w).line c = s.line c)
      ∧ (∀ c, (s.offer e n b k w).cause c = s.cause c) ∧ (∀ c, (s.offer e n b k w).list c = s.list c)
      ∧ (∀ m, (s.offer e n b k w).slot m = s.slot m) ∧ (∀ j, (s.offer e n b k w).lookupKey j = s.lookupKey j) := by
  unfold State.offer
  generalize allUnits = us
  induction us generalizing s with
  | nil => simp
  | cons u us ih =>
    simp only [List.foldl_cons]
    split
    · have h := ih (s.latchWatch u e n b k)
      exact h
    · exact ih s

theorem damageRecord_board (s : State) (n : Nat) (b c : Bd) (p : Payload) (q : Bool) :
    (s.damageRecord n b p q).board c = if c = b then { s.board b with damaged := (s.board b).damaged + 1 } else s.board c := by
  simp [State.damageRecord, State.latchDamage]

/-! ## The walk of a grant -/

/-- The walk changes no board but its own, and of its own only the damaged count. -/
theorem holdWalk_boards (b : Bd) (l : List Nat) (s : State) :
    (∀ c, c ≠ b → (State.holdWalk b l s).1.board c = s.board c)
      ∧ (∃ d, (State.holdWalk b l s).1.board b = { s.board b with damaged := d })
      ∧ (∀ c, (State.holdWalk b l s).1.line c = s.line c) ∧ (∀ c, (State.holdWalk b l s).1.cause c = s.cause c)
      ∧ (∀ c, (State.holdWalk b l s).1.list c = s.list c) := by
  induction l generalizing s with
  | nil => exact ⟨fun _ _ => rfl, ⟨_, rfl⟩, fun _ => rfl, fun _ => rfl, fun _ => rfl⟩
  | cons n l ih =>
    unfold State.holdWalk
    split
    · split
      · rename_i st lk p parity _
        split
        · obtain ⟨h1, ⟨d, h2⟩, h3, h4, h5⟩ := ih (s.offer .hold n b p.key p.watchSet)
          simp only [offer_reads] at h1 h2 h3 h4 h5
          exact ⟨h1, ⟨d, h2⟩, h3, h4, h5⟩
        · obtain ⟨h1, ⟨d, h2⟩, h3, h4, h5⟩ := ih (s.damageRecord n b p parity)
          refine ⟨fun c hc => ?_, ⟨d, ?_⟩, fun c => ?_, fun c => ?_, fun c => ?_⟩
          · rw [h1 c hc, damageRecord_board, if_neg hc]
          · rw [h2, damageRecord_board, if_pos rfl]
          · exact h3 c
          · exact h4 c
          · exact h5 c
      all_goals exact ih s
    · exact ⟨fun _ _ => rfl, ⟨_, rfl⟩, fun _ => rfl, fun _ => rfl, fun _ => rfl⟩

/-- A board record after a grant in the state it ends in, with what the walk counted as damaged. -/
def Board.granted (x : Board) (st : BoardState) (now : Time) (d : Nat) : Board :=
  { x with
    state := st, verdictTime := some now, pending := false, graceEnd := none, stallExpiry := none, lostExpiry := none
    damaged := d }

theorem holdRecords_boards (s : State) (b : Bd) :
    (∀ c, c ≠ b → (s.holdRecords b).board c = s.board c)
      ∧ (∃ st d, (st = (s.board b).state ∨ st = .drained) ∧ (s.holdRecords b).board b =
          { s.board b with state := st, damaged := d })
      ∧ (∀ c, (s.holdRecords b).line c = s.line c) ∧ (∀ c, (s.holdRecords b).cause c = s.cause c)
      ∧ (∀ c, (s.holdRecords b).list c = s.list c) := by
  obtain ⟨h1, ⟨d, h2⟩, h3, h4, h5⟩ := holdWalk_boards b (s.list b) s
  unfold State.holdRecords
  dsimp only
  split
  · exact ⟨h1, ⟨_, d, Or.inl rfl, h2⟩, h3, h4, h5⟩
  · split
    · exact ⟨h1, ⟨_, d, Or.inl rfl, h2⟩, h3, h4, h5⟩
    · split
      · refine ⟨fun c hc => ?_, ⟨.drained, d, Or.inr rfl, ?_⟩, fun c => ?_, fun c => ?_, fun c => ?_⟩
        · simp [hc, h1 c hc]
        · simp [h2]
        · simp [h3 c]
        · simp [h4 c]
        · simp [h5 c]
      · exact ⟨h1, ⟨_, d, Or.inl rfl, h2⟩, h3, h4, h5⟩

/-- A grant changes the board record, the line and the cause of its own board alone; its own board ends SILENT or DRAINED
with the verdict time now, out of the pending set, its timers disarmed and every other field frozen (R122). -/
theorem grantVerdict_boards (s : State) (b : Bd) (p : VerdictPath) :
    (∀ c, c ≠ b → (s.grantVerdict b p).board c = s.board c ∧ (s.grantVerdict b p).line c = s.line c
        ∧ (s.grantVerdict b p).cause c = s.cause c)
      ∧ (∃ st d, (st = .silent ∨ st = .drained) ∧ (s.grantVerdict b p).board b = (s.board b).granted st s.clock d)
      ∧ (s.grantVerdict b p).line b = { s.line b with intervalArmed := false }
      ∧ (s.grantVerdict b p).cause b = none ∧ (∀ c, (s.grantVerdict b p).list c = s.list c) := by
  obtain ⟨h1, ⟨st, d, hst, h2⟩, h3, h4, h5⟩ :=
    holdRecords_boards (((s.silence b).reportState (s.board b).state .silent).latchVerdict b p) b
  unfold State.grantVerdict
  have hb : ∀ c, (((s.silence b).reportState (s.board b).state .silent).latchVerdict b p).board c = (s.silence b).board c :=
    fun c => (reportState_reads _ _ _).1 c
  have hl : ∀ c, (((s.silence b).reportState (s.board b).state .silent).latchVerdict b p).line c = (s.silence b).line c :=
    fun c => (reportState_reads _ _ _).2.1 c
  have hc : ∀ c, (((s.silence b).reportState (s.board b).state .silent).latchVerdict b p).cause c = (s.silence b).cause c :=
    fun c => (reportState_reads _ _ _).2.2.1 c
  have hm : ∀ c, (((s.silence b).reportState (s.board b).state .silent).latchVerdict b p).list c = (s.silence b).list c :=
    fun c => (reportState_reads _ _ _).2.2.2.1 c
  refine ⟨fun c hcb => ⟨?_, ?_, ?_⟩, ⟨st, d, ?_, ?_⟩, ?_, ?_, fun c => ?_⟩
  · rw [h1 c hcb, hb]; simp [State.silence, hcb]
  · rw [h3, hl]; simp [State.silence, hcb]
  · rw [h4, hc]; simp [State.silence, hcb]
  · rw [hb] at hst; simpa [State.silence] using hst
  · rw [h2, hb]; simp [State.silence, Board.granted]
  · rw [h3, hl]; simp [State.silence]
  · rw [h4, hc]; simp [State.silence]
  · rw [h5, hm]; simp [State.silence]

/-! ## The reconsideration -/

theorem mem_pendingBoards (s : State) (b : Bd) : b ∈ s.pendingBoards ↔ (s.cause b).isSome = true := by
  simp [State.pendingBoards, List.mem_filter, mem_allBoards]

theorem mem_insertByScore (s : State) (b c : Bd) (l : List Bd) : c ∈ s.insertByScore b l ↔ c = b ∨ c ∈ l := by
  induction l with
  | nil => simp [State.insertByScore]
  | cons d l ih =>
    unfold State.insertByScore
    split
    · simp
    · simp only [List.mem_cons, ih]; tauto

/-- The grant order is an order of the pending set. -/
theorem mem_grantOrder (s : State) (b : Bd) : b ∈ s.grantOrder ↔ (s.cause b).isSome = true := by
  rw [← mem_pendingBoards]
  unfold State.grantOrder
  induction s.pendingBoards with
  | nil => simp
  | cons d l ih => simp only [List.foldr_cons, mem_insertByScore, List.mem_cons, ih]

theorem recordCauses_reads (s : State) (c : Cause) :
    (∀ b, (s.recordCauses c).board b = s.board b) ∧ (∀ b, (s.recordCauses c).line b = s.line b)
      ∧ (∀ b, ((s.recordCauses c).cause b).isSome = (s.cause b).isSome)
      ∧ (s.recordCauses c).withholdCause = s.withholdCause := by
  unfold State.recordCauses
  generalize allBoards = bs
  induction bs generalizing s with
  | nil => simp
  | cons d bs ih =>
    simp only [List.foldl_cons]
    split
    · rename_i h
      simp only [Bool.and_eq_true] at h
      obtain ⟨h1, h2, h3, h4⟩ := ih ((s.setCause d (some c)).latchWithheld d c)
      refine ⟨h1, h2, fun b => ?_, h4⟩
      rw [h3 b]
      show ((s.setCause d (some c)).cause b).isSome = _
      by_cases hb : b = d
      · subst hb; simp [h.1]
      · simp [hb]
    · exact ih s

theorem reconsidered_refl (s : State) : Reconsidered s s := ⟨VerdictFrame.refl s, fun _ h => ⟨rfl, rfl, h⟩⟩

theorem Reconsidered.trans {s t u : State} (h : Reconsidered s t) (k : Reconsidered t u) : Reconsidered s u := by
  refine ⟨h.1.trans k.1, fun b hb => ?_⟩
  obtain ⟨h1, h2, h3⟩ := h.2 b hb
  obtain ⟨k1, k2, k3⟩ := k.2 b h3
  exact ⟨k1.trans h1, k2.trans h2, k3⟩

theorem reconsiderRounds_reconsidered (k : Nat) (s : State) : Reconsidered s (State.reconsiderRounds k s) := by
  induction k generalizing s with
  | zero => exact reconsidered_refl s
  | succ k ih =>
    unfold State.reconsiderRounds
    split
    · exact reconsidered_refl s
    · rename_i b l hl
      have hb : (s.cause b).isSome = true := (mem_grantOrder s b).1 (by rw [hl]; simp)
      split
      · refine Reconsidered.trans ⟨frame_grantVerdict s b _, fun c hc => ?_⟩ (ih _)
        have hcb : c ≠ b := by rintro rfl; simp [hc] at hb
        obtain ⟨h1, h2, h3⟩ := (grantVerdict_boards s b .automatic).1 c hcb
        exact ⟨h1, h2, h3.trans hc⟩
      · rename_i w _
        obtain ⟨h1, h2, h3, _⟩ := recordCauses_reads s w
        refine ⟨frame_recordCauses s w, fun c hc => ⟨h1 c, h2 c, ?_⟩⟩
        have := h3 c
        simpa [hc] using this

/-- A reconsideration changes pending boards alone, within VerdictFrame (R121). -/
theorem reconsider_reconsidered (s : State) : Reconsidered s s.reconsider := reconsiderRounds_reconsidered 33 s

theorem afterExit_reconsidered (s t : State) : Reconsidered t (s.afterExit t) := by
  unfold State.afterExit
  split
  · exact reconsider_reconsidered t
  · exact reconsidered_refl t

/-- With no pending board a reconsideration changes nothing. -/
theorem reconsider_of_none (s : State) (h : ∀ b, s.cause b = none) : s.reconsider = s := by
  have : s.grantOrder = [] := by
    rw [List.eq_nil_iff_forall_not_mem]
    intro b hb
    simp [mem_grantOrder, h b] at hb
  unfold State.reconsider State.reconsiderRounds
  rw [this]

/-- The number of pending boards. -/
def State.pendingCount (s : State) : Nat := s.pendingBoards.length

theorem pendingCount_grant (s : State) (b : Bd) (hb : (s.cause b).isSome = true) (p : VerdictPath) :
    (s.grantVerdict b p).pendingCount < s.pendingCount := by
  unfold State.pendingCount State.pendingBoards
  have hc : ∀ c, ((s.grantVerdict b p).cause c).isSome = (decide (c ≠ b) && (s.cause c).isSome) := by
    intro c
    by_cases h : c = b
    · subst h; simp [(grantVerdict_boards s c p).2.2.2.1]
    · simp [h, ((grantVerdict_boards s b p).1 c h).2.2]
  simp only [hc]
  have : allBoards.filter (fun c => decide (c ≠ b) && (s.cause c).isSome)
      = (allBoards.filter fun c => (s.cause c).isSome).filter fun c => decide (c ≠ b) := by
    simp [List.filter_filter]
  rw [this]
  refine List.length_filter_lt_length_iff_exists.2 ⟨b, ?_, by simp⟩
  simp [List.mem_filter, mem_allBoards, hb]

theorem pendingCount_le (s : State) : s.pendingCount ≤ 32 := by
  unfold State.pendingCount State.pendingBoards
  exact (List.length_filter_le _ _).trans (by decide)

/-- Enough rounds end with the pending set empty or a condition of R119 failing. -/
theorem reconsiderRounds_ends (k : Nat) (s : State) (hk : s.pendingCount < k) :
    (∀ b, (State.reconsiderRounds k s).cause b = none) ∨ (State.reconsiderRounds k s).withholdCause ≠ none := by
  induction k generalizing s with
  | zero => omega
  | succ k ih =>
    unfold State.reconsiderRounds
    split
    · rename_i h
      left
      intro b
      by_contra hb
      have hm := (mem_grantOrder s b).2 (by simpa [Option.isSome_iff_ne_none] using hb)
      rw [h] at hm; simp at hm
    · rename_i b l hl
      have hb : (s.cause b).isSome = true := (mem_grantOrder s b).1 (by rw [hl]; simp)
      split
      · exact ih _ (by have := pendingCount_grant s b hb .automatic; omega)
      · rename_i w hw
        right
        rw [(recordCauses_reads s w).2.2.2, hw]
        simp

/-- A reconsideration ends with the pending set empty or a condition of R119 failing (R121). -/
theorem reconsider_ends (s : State) : (∀ b, s.reconsider.cause b = none) ∨ s.reconsider.withholdCause ≠ none :=
  reconsiderRounds_ends 33 s (by have := pendingCount_le s; omega)

end Sys2Proof.Machine
end

