-- ==== Sys2Proof/Laws/Link.lean ====
section
/-! SUPPORT. What taking a command comes to: requests and events while the part runs and while RESET_N is held, the head
frame taken off, and the bytes of numbers. -/

namespace Sys2Proof.Machine

/-! ## Taking a request or an event -/

theorem takeRequest_next (i : Instr) (serve : State → State) (s : State) (h : s.resetHeld = false) :
    takeRequest i serve s = .next (serve (s.takeOff i)).driveLines := by simp [takeRequest, whenReleased, h]

theorem takeEvent_next (effect : State → State) (s : State) (h : s.resetHeld = false) :
    takeEvent effect s = .next (effect s).driveLines := by simp [takeEvent, whenReleased, h]

theorem takeRequest_held (i : Instr) (serve : State → State) (s : State) (h : s.resetHeld = true) :
    takeRequest i serve s = .next s := by simp [takeRequest, whenReleased, h]

theorem takeEvent_held (effect : State → State) (s : State) (h : s.resetHeld = true) :
    takeEvent effect s = .next s := by simp [takeEvent, whenReleased, h]

/-- Every request is taken in the one way and served by its owning block. -/
theorem exec_request (i : Instr) (s : State) (h : (requestParts i).isSome = true) :
    exec i s = takeRequest i (serve i) s := by
  cases i <;> first | (simp [requestParts] at h; done) | rfl

/-- Every command ends in a next state: the part never stops. -/
theorem exec_next (i : Instr) (s : State) : ∃ t, exec i s = .next t := by
  cases hr : s.resetHeld <;> cases i <;>
    simp [exec, execFrameArrival, execLinkCheck, execLodge, execAdvance, execRelease, execLookup, execPeek, execEnrol,
      execReinstate, execRetire, execDeclare, execAbsolve, execTake, execPurge, execReport, execBoard, execDevice,
      execSetgroupTimebase, execSetgroupProfile, execSetgroupLatency, execSetgroupWeights, execSetgroupThresholds,
      execSetgroupHeartbeat, execSetgroupGuard, execSetgroupTable, execSetgroupMasks, execGetgroup, execSetwatch,
      execNotice, execTest, execClear, execIdent, execPinReset, execTuStep, execPassStart, execSweepVisit,
      execGraceExpiry, execPulse, execLostExpiry, execStallExpiry, execResetNReleased, takeRequest, takeEvent,
      whenReleased, hr]

/-! ## The serial form of bytes (R171) -/

/-- The bits of a byte, bit 0 first, give the byte back. -/
theorem bitsByte_getLsbD (b : Byte) :
    bitsByte [b.getLsbD 0, b.getLsbD 1, b.getLsbD 2, b.getLsbD 3, b.getLsbD 4, b.getLsbD 5, b.getLsbD 6, b.getLsbD 7] = b := by
  revert b; decide +kernel

/-- A byte in front of others on the line is read first. -/
theorem bytesFromLine_byteOnLine (b : Byte) (rest : List LineBit) :
    bytesFromLine (byteOnLine b ++ rest) = (bytesFromLine rest).map (b :: ·) := by
  show (bytesFromLine rest).map (bitsByte _ :: ·) = _
  rw [bitsByte_getLsbD]

@[simp] theorem bytesOnLine_append (l m : List Byte) : bytesOnLine (l ++ m) = bytesOnLine l ++ bytesOnLine m := by
  simp [bytesOnLine]

/-! ## The head frame taken off -/

/-- Taking a frame off touches the buffer and READY alone. -/
theorem takeOff_frame (s : State) (i : Instr) : { s.takeOff i with buffer := s.buffer, ready := s.ready } = s := by
  unfold State.takeOff
  split
  · rfl
  · split <;> rfl

/-- The fields a frame's taking leaves as they were. -/
@[simp] theorem takeOff_rest (s : State) (i : Instr) :
    (s.takeOff i).resetHeld = s.resetHeld ∧ (s.takeOff i).rx = s.rx ∧ (s.takeOff i).tx = s.tx
      ∧ (s.takeOff i).slots = s.slots ∧ (s.takeOff i).index = s.index ∧ (s.takeOff i).free = s.free
      ∧ (s.takeOff i).lists = s.lists ∧ (s.takeOff i).unattributed = s.unattributed
      ∧ (s.takeOff i).occupancy = s.occupancy ∧ (s.takeOff i).tableHighArmed = s.tableHighArmed
      ∧ (s.takeOff i).clock = s.clock ∧ (s.takeOff i).boards = s.boards ∧ (s.takeOff i).lines = s.lines
      ∧ (s.takeOff i).effWeights = s.effWeights ∧ (s.takeOff i).effThresholds = s.effThresholds
      ∧ (s.takeOff i).active = s.active ∧ (s.takeOff i).doubtful = s.doubtful ∧ (s.takeOff i).down = s.down
      ∧ (s.takeOff i).commonCause = s.commonCause ∧ (s.takeOff i).withheld = s.withheld
      ∧ (s.takeOff i).units = s.units ∧ (s.takeOff i).latches = s.latches ∧ (s.takeOff i).groups = s.groups
      ∧ (s.takeOff i).selfTest = s.selfTest ∧ (s.takeOff i).halted = s.halted
      ∧ (s.takeOff i).testRecord = s.testRecord ∧ (s.takeOff i).pass = s.pass
      ∧ (s.takeOff i).sweepPosition = s.sweepPosition ∧ (s.takeOff i).pending = s.pending := by
  unfold State.takeOff
  split
  · simp
  · split <;> simp

@[simp] theorem takeOff_reads (s : State) (i : Instr) :
    (∀ c, (s.takeOff i).board c = s.board c) ∧ (∀ c, (s.takeOff i).line c = s.line c)
      ∧ (∀ c, (s.takeOff i).cause c = s.cause c) ∧ (∀ c, (s.takeOff i).list c = s.list c)
      ∧ (∀ u, (s.takeOff i).unit u = s.unit u) ∧ (∀ n, (s.takeOff i).slot n = s.slot n)
      ∧ (∀ k, (s.takeOff i).lookupKey k = s.lookupKey k) := by
  simp [State.board, State.line, State.cause, State.list, State.unit, State.slot, State.lookupKey]

/-! ## Bytes of numbers -/

@[simp] theorem length_be (k n : Nat) : (be k n).length = k := by
  induction k with
  | zero => rfl
  | succ k ih => simp [be, ih]

theorem ofBe_append (l : List Byte) (b : Byte) : ofBe (l ++ [b]) = ofBe l * 256 + b.toNat := by simp [ofBe]

theorem ofBe_cons (b : Byte) (l : List Byte) : ofBe (b :: l) = b.toNat * 256 ^ l.length + ofBe l := by
  induction l using List.reverseRecOn with
  | nil => simp [ofBe]
  | append_singleton l c ih =>
    rw [← List.cons_append, ofBe_append, ofBe_append, ih]
    simp [pow_succ]; ring

/-- The bytes of a number stand for it, modulo what k bytes hold. -/
theorem ofBe_be (k n : Nat) : ofBe (be k n) = n % 256 ^ k := by
  induction k with
  | zero => simp [be, ofBe, Nat.mod_one]
  | succ k ih =>
    have h : n % (256 ^ k * 256) = n % 256 ^ k + 256 ^ k * (n / 256 ^ k % 2 ^ 8) := Nat.mod_mul
    rw [be, ofBe_cons, ih, length_be, BitVec.toNat_ofNat, pow_succ 256 k, h, Nat.mul_comm, Nat.add_comm]

@[simp] theorem length_keyBytes (k : Key) : (keyBytes k).length = 6 := by simp [keyBytes]

/-! ## Lengths of the groups and settings as bytes (R163, R169) -/

@[simp] theorem length_timebaseBytes (g : Timebase) : (Timebase.bytes g).length = 3 := by simp [Timebase.bytes]

@[simp] theorem length_profileBytes (g : Profile) : (Profile.bytes g).length = 8 := by simp [Profile.bytes]

@[simp] theorem length_latencyBytes (g : Latency) : (Latency.bytes g).length = 3 := by simp [Latency.bytes]

@[simp] theorem length_weightsBytes (g : Weights) : (Weights.bytes g).length = 12 := by simp [Weights.bytes]

@[simp] theorem length_thresholdsBytes (g : Thresholds) : (Thresholds.bytes g).length = 7 := by simp [Thresholds.bytes]

@[simp] theorem length_heartbeatBytes (g : Heartbeat) : (Heartbeat.bytes g).length = 9 := by simp [Heartbeat.bytes]

@[simp] theorem length_guardBytes (g : Guard) : (Guard.bytes g).length = 4 := by simp [Guard.bytes]

@[simp] theorem length_tableSettingsBytes (g : TableSettings) : (TableSettings.bytes g).length = 4 := by simp [TableSettings.bytes]

@[simp] theorem length_masksBytes (g : Masks) : (Masks.bytes g).length = 3 := by simp [Masks.bytes]

@[simp] theorem length_watchSettingsBytes (g : WatchSettings) : (WatchSettings.bytes g).length = 17 := by simp [WatchSettings.bytes]

end Sys2Proof.Machine
end

