-- ==== Sys2Proof/Laws/PerInstr.lean ====
section
/-! SUPPORT. PayloadFits: the payload of every request fits a frame's 48 payload bytes (R160), one lemma per command. -/

namespace Sys2Proof.Laws.PayloadFits

open Sys2Proof.Machine

/-- A request's payload has at most 48 bytes (R160); an event of the part has no payload. -/
def Statement (i : Instr) : Prop := ∀ x, requestParts i = some x → x.2.2.length ≤ 48

theorem frameArrival (bytes : List Byte) : Statement (.frameArrival bytes) := by
  rintro x ⟨⟩

theorem linkCheck : Statement .linkCheck := by
  rintro x ⟨⟩

theorem lodge (tag board : Byte) (key : Key) (cls : Byte) (routerTag : Option (BitVec 32)) :
    Statement (.lodge tag board key cls routerTag) := by
  rintro x ⟨⟩
  cases routerTag <;> simp

theorem advance (tag : Byte) (key : Key) (approval : BitVec 32) : Statement (.advance tag key approval) := by
  rintro x ⟨⟩
  simp

theorem release (tag : Byte) (key : Key) (outcome : Byte) : Statement (.release tag key outcome) := by
  rintro x ⟨⟩
  simp

theorem lookup (tag : Byte) (key : Key) : Statement (.lookup tag key) := by
  rintro x ⟨⟩
  simp

theorem peek (tag : Byte) (slot : BitVec 16) : Statement (.peek tag slot) := by
  rintro x ⟨⟩
  simp

theorem enrol (tag board : Byte) : Statement (.enrol tag board) := by
  rintro x ⟨⟩
  simp

theorem reinstate (tag board : Byte) : Statement (.reinstate tag board) := by
  rintro x ⟨⟩
  simp

theorem retire (tag board : Byte) : Statement (.retire tag board) := by
  rintro x ⟨⟩
  simp

theorem declare (tag board : Byte) : Statement (.declare tag board) := by
  rintro x ⟨⟩
  simp

theorem absolve (tag board : Byte) : Statement (.absolve tag board) := by
  rintro x ⟨⟩
  simp

theorem take (tag board n : Byte) : Statement (.take tag board n) := by
  rintro x ⟨⟩
  simp

theorem purge (tag board : Byte) : Statement (.purge tag board) := by
  rintro x ⟨⟩
  simp

theorem report (tag board : Byte) (count : BitVec 16) : Statement (.report tag board count) := by
  rintro x ⟨⟩
  simp

theorem board (tag slot : Byte) : Statement (.board tag slot) := by
  rintro x ⟨⟩
  simp

theorem device (tag part : Byte) : Statement (.device tag part) := by
  rintro x ⟨⟩
  simp

theorem setgroupTimebase (tag : Byte) (fields : Timebase) : Statement (.setgroupTimebase tag fields) := by
  rintro x ⟨⟩
  simp

theorem setgroupProfile (tag : Byte) (cls : Fin 4) (fields : Profile) : Statement (.setgroupProfile tag cls fields) := by
  rintro x ⟨⟩
  simp

theorem setgroupLatency (tag : Byte) (fields : Latency) : Statement (.setgroupLatency tag fields) := by
  rintro x ⟨⟩
  simp

theorem setgroupWeights (tag : Byte) (fields : Weights) : Statement (.setgroupWeights tag fields) := by
  rintro x ⟨⟩
  simp

theorem setgroupThresholds (tag : Byte) (fields : Thresholds) : Statement (.setgroupThresholds tag fields) := by
  rintro x ⟨⟩
  simp

theorem setgroupHeartbeat (tag : Byte) (fields : Heartbeat) : Statement (.setgroupHeartbeat tag fields) := by
  rintro x ⟨⟩
  simp

theorem setgroupGuard (tag : Byte) (fields : Guard) : Statement (.setgroupGuard tag fields) := by
  rintro x ⟨⟩
  simp

theorem setgroupTable (tag : Byte) (fields : TableSettings) : Statement (.setgroupTable tag fields) := by
  rintro x ⟨⟩
  simp

theorem setgroupMasks (tag : Byte) (fields : Masks) : Statement (.setgroupMasks tag fields) := by
  rintro x ⟨⟩
  simp

theorem getgroup (tag group : Byte) : Statement (.getgroup tag group) := by
  rintro x ⟨⟩
  simp

theorem setwatch (tag unit : Byte) (settings : WatchSettings) : Statement (.setwatch tag unit settings) := by
  rintro x ⟨⟩
  simp

theorem notice (tag : Byte) : Statement (.notice tag) := by
  rintro x ⟨⟩
  simp

theorem test (tag inject : Byte) : Statement (.test tag inject) := by
  rintro x ⟨⟩
  simp

theorem clear (tag : Byte) : Statement (.clear tag) := by
  rintro x ⟨⟩
  simp

theorem ident (tag : Byte) : Statement (.ident tag) := by
  rintro x ⟨⟩
  simp

theorem pinReset : Statement .pinReset := by
  rintro x ⟨⟩

theorem tuStep : Statement .tuStep := by
  rintro x ⟨⟩

theorem passStart : Statement .passStart := by
  rintro x ⟨⟩

theorem sweepVisit : Statement .sweepVisit := by
  rintro x ⟨⟩

theorem graceExpiry (b : Bd) : Statement (.graceExpiry b) := by
  rintro x ⟨⟩

theorem pulse (b : Bd) : Statement (.pulse b) := by
  rintro x ⟨⟩

theorem lostExpiry (b : Bd) : Statement (.lostExpiry b) := by
  rintro x ⟨⟩

theorem stallExpiry (b : Bd) : Statement (.stallExpiry b) := by
  rintro x ⟨⟩

theorem resetNReleased : Statement .resetNReleased := by
  rintro x ⟨⟩

end Sys2Proof.Laws.PayloadFits
end

