-- ==== Sys2Proof/Laws/Table.lean ====
section
/-! SUPPORT. What each operation of the Custody Table, the receiver and SETGROUP's shared part can do, said once. -/

namespace Sys2Proof.Machine

/-! ## The bits of a payload -/

@[simp] theorem length_wordBits (w x : Nat) : (wordBits w x).length = w := by simp [wordBits]

@[simp] theorem length_optBits (w : Nat) (x : Option Nat) : (optBits w x).length = w + 1 := by cases x <;> simp [optBits]

/-- Every payload has the same number of bits, so that bitsChanged compares them all. -/
theorem length_payloadBits (p : Payload) : (payloadBits p).length = 220 := by simp [payloadBits]

/-! ## Occupancy and the table-high flag -/

theorem occupancyRise_eq (s : State) :
    s.occupancyRise =
      { s with
        occupancy := s.occupancy + 1
        tableHighArmed := s.tableHighArmed && !decide (s.highMark ≤ s.occupancy + 1)
        latches := { s.latches with
          tableHigh :=
            if s.tableHighArmed = true ∧ s.highMark ≤ s.occupancy + 1 then
              some (s.latches.tableHigh.getD ⟨s.clock, s.occupancy + 1⟩)
            else s.latches.tableHigh } } := by
  have hm : ({ s with occupancy := s.occupancy + 1 } : State).highMark = s.highMark := rfl
  unfold State.occupancyRise
  simp only [hm]
  cases ha : s.tableHighArmed <;> by_cases hh : s.highMark ≤ s.occupancy + 1 <;>
    simp [hh, State.latchTableHigh, State.modifyLatches]

theorem occupancyFall_eq (s : State) :
    s.occupancyFall =
      { s with
        occupancy := s.occupancy - 1
        tableHighArmed := s.tableHighArmed || decide (s.occupancy - 1 + 256 < s.highMark) } := by
  have hm : ({ s with occupancy := s.occupancy - 1 } : State).highMark = s.highMark := rfl
  unfold State.occupancyFall
  simp only [hm]
  by_cases hh : s.occupancy - 1 + 256 < s.highMark <;> simp [hh]

/-- A faulty FREE slot out of the free list: the unattributed DAMAGED slot, the table-high test, DAMAGE (R8, R17). -/
theorem damageFree_eq (s : State) (n : Nat) :
    s.damageFree n =
      ({ s with
        slots := mapPut n .unattributed s.slots
        free := s.free.erase n
        unattributed := insertAscending n s.unattributed
        occupancy := s.occupancy + 1
        tableHighArmed := s.tableHighArmed && !decide (s.highMark ≤ s.occupancy + 1)
        latches := { s.latches with
          tableHigh :=
            if s.tableHighArmed = true ∧ s.highMark ≤ s.occupancy + 1 then
              some (s.latches.tableHigh.getD ⟨s.clock, s.occupancy + 1⟩)
            else s.latches.tableHigh } } : State).latchDamage n none := by
  unfold State.damageFree
  rw [occupancyRise_eq]
  rfl

/-- A record made DAMAGED keeps its payload in its slot; every other slot keeps what it holds (R2, R15). -/
theorem damageRecord_slot (s : State) (n m : Nat) (b : Bd) (p : Payload) (q : Bool) :
    (s.damageRecord n b p q).slot m = if m = n then some (.damaged b p q) else s.slot m := by
  show mapFind m (mapPut n _ s.slots) = _
  rw [mapFind_mapPut]
  rfl

/-! ## Leaving a list, and retiring -/

/-- A removal that does not drain its board changes the board's list and its record's counts and stall timer alone. -/
theorem leaveList_eq (s : State) (b : Bd) (n : Nat) (d : Bool)
    (h : (s.list b).erase n ≠ [] ∨ (s.board b).state ≠ .silent) :
    s.leaveList b n d =
      (s.setList b ((s.list b).erase n)).modifyBoard b fun x =>
        let o := if (s.list b).erase n = [] then 0 else x.outstanding - 1
        { x with
          outstanding := o, damaged := x.damaged - d.toNat, stallExpiry := if o = 0 then none else x.stallExpiry } := by
  unfold State.leaveList
  simp only [List.isEmpty_iff]
  by_cases he : (s.list b).erase n = []
  · have hs := h.resolve_left (fun h => h he)
    simp [he, hs]
  · simp [he]

/-- Draining, where it happens, moves the state of its own board alone. -/
theorem drainIf_reads (t : State) (p : Bool) (b c : Bd) :
    (if p = true then t.setBoardState b .drained else t).list c = t.list c
      ∧ (c ≠ b → (if p = true then t.setBoardState b .drained else t).board c = t.board c) := by
  split
  · exact ⟨by simp, fun hc => by simp [hc]⟩
  · exact ⟨rfl, fun _ => rfl⟩

/-- Whatever a removal empties, it keeps the other boards' lists and records. -/
theorem leaveList_others (s : State) (b c : Bd) (n : Nat) (d : Bool) (hc : c ≠ b) :
    (s.leaveList b n d).list c = s.list c ∧ (s.leaveList b n d).board c = s.board c := by
  constructor
  · exact (drainIf_reads _ _ b c).1.trans (by simp [hc])
  · exact ((drainIf_reads _ _ b c).2 hc).trans (by simp [hc])

theorem leaveList_list (s : State) (b : Bd) (n : Nat) (d : Bool) :
    (s.leaveList b n d).list b = (s.list b).erase n :=
  (drainIf_reads _ _ b b).1.trans (by simp)

/-- A slot freed joins the tail of the free list. -/
theorem freeSlot_eq (s : State) (n : Nat) :
    s.freeSlot n =
      { s with
        slots := mapRemove n s.slots, free := s.free ++ [n], occupancy := s.occupancy - 1
        tableHighArmed := s.tableHighArmed || decide (s.occupancy - 1 + 256 < s.highMark) } := by
  unfold State.freeSlot
  rw [occupancyFall_eq]
  rfl

theorem retire_record_eq (s : State) (n : Nat) (st : Stage) (b : Bd) (p : Payload) (q : Bool)
    (h : s.slot n = some (.record st b p q)) : s.retire n = ((s.dropIndexOf n).leaveList b n false).freeSlot n := by
  simp [State.retire, h]

theorem retire_damaged_eq (s : State) (n : Nat) (b : Bd) (p : Payload) (q : Bool)
    (h : s.slot n = some (.damaged b p q)) :
    s.retire n = (s.leaveList b n true).freeSlot n := by
  simp [State.retire, h]

theorem retire_unattributed_eq (s : State) (n : Nat) (h : s.slot n = some .unattributed) :
    s.retire n = ({ s with unattributed := s.unattributed.erase n } : State).freeSlot n := by
  simp [State.retire, h]

/-! ## Creating -/

/-- A created record in the table: its slot, its index entry, its place at the tail of the list. -/
theorem createRecord_reads (s : State) (n : Nat) (rest : List Nat) (b : Bd) (p : Payload) :
    (∀ m, (s.createRecord n rest b p).slot m = if m = n then some (.record .lodged b p (parityOf p)) else s.slot m)
      ∧ (∀ c, (s.createRecord n rest b p).list c = if c = b then s.list b ++ [n] else s.list c)
      ∧ (s.createRecord n rest b p).free = rest
      ∧ (s.createRecord n rest b p).index = mapPut (keyNumber p.key) n s.index
      ∧ (s.createRecord n rest b p).occupancy = s.occupancy + 1 := by
  unfold State.createRecord
  dsimp only
  rw [occupancyRise_eq]
  refine ⟨fun m => ?_, fun c => ?_, rfl, rfl, rfl⟩
  · exact State.slot_writeRecord s n m .lodged b p
  · exact State.list_setList s b c _

/-! ## The receiver -/

/-- Receiving changes the receiver, the buffer and the LINK latch, and nothing else. -/
theorem receive_frame (s : State) (bytes : List Byte) :
    { s.receive bytes with rx := s.rx, buffer := s.buffer, latches := { (s.receive bytes).latches with link := s.latches.link } }
      = s := by
  unfold State.receive
  induction bytes generalizing s with
  | nil => rfl
  | cons x xs ih =>
    rw [List.foldl_cons]
    have hx : ∃ r f l, s.receiveByte x = { s with rx := r, buffer := f, latches := { s.latches with link := l } } := by
      have arr : ∀ (t : State) (g : Frame), (∃ r f l, t = { s with rx := r, buffer := f, latches := { s.latches with link := l } }) →
          ∃ r f l, t.frameArrives g = { s with rx := r, buffer := f, latches := { s.latches with link := l } } := by
        rintro t g ⟨r, f, l, rfl⟩
        unfold State.frameArrives
        split
        · exact ⟨r, _, l, rfl⟩
        · exact ⟨r, f, _, rfl⟩
      unfold State.receiveByte
      split
      · split
        · exact ⟨_, _, _, rfl⟩
        · exact ⟨s.rx, s.buffer, s.latches.link, rfl⟩
      · exact ⟨_, _, _, rfl⟩
      · exact ⟨_, _, _, rfl⟩
      · split
        · exact arr _ _ ⟨_, _, _, rfl⟩
        · exact ⟨_, _, _, rfl⟩
      · dsimp only
        split
        · exact arr _ _ ⟨_, _, _, rfl⟩
        · exact ⟨_, _, _, rfl⟩
    obtain ⟨r, f, l, hx⟩ := hx
    have h := ih (s.receiveByte x)
    rw [hx] at h ⊢
    simpa using congrArg (fun t : State => { t with rx := s.rx, buffer := s.buffer, latches := { t.latches with link := s.latches.link } }) h

/-! ## SETGROUP -/

theorem setgroup_refused (s : State) (tag : Byte) (number i : Nat) (write : State → State) :
    s.setgroup tag number (some i) write = s.outOfRange 0x10 tag (BitVec.ofNat 8 i) := rfl

theorem setgroup_accepted (s : State) (tag : Byte) (number : Nat) (write : State → State) :
    s.setgroup tag number none write = (write s).answer 0x10 tag .accepted [BitVec.ofNat 8 number, 1] := rfl

end Sys2Proof.Machine
end

