-- ==== Sys2Proof/Laws/Time.lean ====
section
/-! SUPPORT. What the events of the sweep and of the timers, and the end of a TU, leave alone, and that the end of a TU in which
nothing is due is nothing. -/

namespace Sys2Proof.Machine

/-! ## What no event of the part's own clock changes -/

/-- t stands to s as after an event of the sweep or of a timer: the queue, the reset pin, the link, the clock, the watch
settings and the effective masks are those of s. -/
def ClockFrame (s t : State) : Prop :=
  t.pending = s.pending ∧ t.resetHeld = s.resetHeld ∧ t.rx = s.rx ∧ t.buffer = s.buffer ∧ t.tx = s.tx ∧ t.ready = s.ready
    ∧ t.clock = s.clock ∧ t.units = s.units ∧ t.noticeMask = s.noticeMask ∧ t.faultMask = s.faultMask

theorem ClockFrame.refl (s : State) : ClockFrame s s := ⟨rfl, rfl, rfl, rfl, rfl, rfl, rfl, rfl, rfl, rfl⟩

theorem ClockFrame.trans {s t u : State} (h : ClockFrame s t) (k : ClockFrame t u) : ClockFrame s u := by
  unfold ClockFrame at *
  simp_all

theorem VerdictFrame.clockFrame {s t : State} (h : VerdictFrame s t) : ClockFrame s t := by
  obtain ⟨h1, h2, h3, h4, h5, h6, _, _, _, _, _, h7, _, _, _, _, h8, h9, h10, _⟩ := h.keeps
  exact ⟨h1, h2, h3, h4, h5, h6, h7, h8, h9, h10⟩

theorem clockFrame_verifyGroups (s : State) : ClockFrame s s.verifyGroups := by
  unfold State.verifyGroups
  dsimp only
  split <;> exact ClockFrame.refl s

theorem clockFrame_startPass (s : State) : ClockFrame s s.startPass := by
  have h : ClockFrame s s.takeUpTimebase := by
    unfold State.takeUpTimebase
    split <;> exact ClockFrame.refl s
  have k : ∀ t : State, ClockFrame t t.beginMemoryPhase := fun t => by
    unfold State.beginMemoryPhase
    split <;> exact ClockFrame.refl t
  exact (h.trans (clockFrame_verifyGroups _)).trans (k _)

theorem clockFrame_passStartEffect (s : State) : ClockFrame s (passStartEffect s) := by
  unfold passStartEffect
  split
  · exact clockFrame_startPass s
  · exact ClockFrame.refl s

theorem clockFrame_visitSlot (s : State) (n : Nat) : ClockFrame s (s.visitSlot n) := by
  unfold State.visitSlot
  split
  · unfold State.visitRecord
    split
    · exact (frame_damageRecord s _ _ _ _).clockFrame
    · split
      · exact (frame_enterHalted s _).clockFrame
      · split
        · exact (((frame_setSlot s _ _).trans (frame_offer _ _ _ _ _ _)).trans (frame_charge _ _ _)).clockFrame
        · exact ClockFrame.refl s
  · exact ClockFrame.refl s
  · exact ClockFrame.refl s
  · split
    · have h : ∀ t : State, ClockFrame t (t.damageFree n) := fun t => by
        unfold State.damageFree State.occupancyRise
        dsimp only
        split <;> exact ClockFrame.refl t
      unfold State.testFreeSlot
      dsimp only
      split
      · exact ClockFrame.refl s
      · exact h { s with freeValues := s.freeValues + 1 }
    · exact ClockFrame.refl s

theorem clockFrame_sweepVisitEffect (s : State) : ClockFrame s (sweepVisitEffect s) := by
  have h := clockFrame_visitSlot s s.sweepPosition
  have k : ∀ (t : State) (began : Time), ClockFrame t (t.endPass began) := fun t began => by
    unfold State.endPass
    dsimp only
    split <;> exact ClockFrame.refl t
  unfold sweepVisitEffect
  split
  · exact ClockFrame.refl s
  · split
    · unfold State.sweepVisit
      dsimp only
      split
      · exact h
      · exact h.trans (k _ _)
    · exact ClockFrame.refl s

/-- Grace's end changes the board's record alone: neither count moves (R82, R117). -/
theorem expireGrace_eq (s : State) (b : Bd) (h : (s.board b).state = .warming) :
    s.expireGrace b = s.modifyBoard b fun x => x.graced (s.after s.hbMax) (s.after s.stallLimit) := by
  unfold State.expireGrace
  rw [h, reportState_of_sameCounts _ _ _ (by decide)]
  rfl

theorem clockFrame_graceExpiryEffect (b : Bd) (s : State) : ClockFrame s (graceExpiryEffect b s) := by
  unfold graceExpiryEffect
  split
  · exact ((frame_modifyBoard s b _).trans (frame_reportState _ _ _)).clockFrame
  · exact ClockFrame.refl s

theorem clockFrame_lostExpiryEffect (b : Bd) (s : State) : ClockFrame s (lostExpiryEffect b s) := by
  unfold lostExpiryEffect
  split
  · exact (((frame_modifyLine s b _).trans (frame_modifyBoard _ b _)).trans (frame_charge _ _ _)).clockFrame
  · exact ClockFrame.refl s

theorem clockFrame_stallExpiryEffect (b : Bd) (s : State) : ClockFrame s (stallExpiryEffect b s) := by
  unfold stallExpiryEffect
  split
  · split
    · exact (frame_modifyBoard s b _).clockFrame
    · exact ((frame_modifyBoard s b _).trans (frame_charge _ _ _)).clockFrame
  · exact ClockFrame.refl s

/-! ## The end of a TU -/

theorem clockFrame_sweepOut (k : Nat) (s : State) : ClockFrame s (State.sweepOut k s) := by
  induction k generalizing s with
  | zero => exact ClockFrame.refl s
  | succ k ih =>
    unfold State.sweepOut
    split
    · exact (clockFrame_passStartEffect s).trans (ih _)
    · split
      · exact (clockFrame_sweepVisitEffect s).trans (ih _)
      · exact ClockFrame.refl s

/-- The end of a TU changes neither the queue nor the link nor the clock. -/
theorem clockFrame_endTu (s : State) : ClockFrame s s.endTu := by
  unfold State.endTu
  refine (clockFrame_sweepOut (Config.recordSlots + 1) s).trans ?_
  generalize State.sweepOut _ s = t
  generalize allBoards = bs
  induction bs generalizing t with
  | nil => exact ClockFrame.refl t
  | cons b bs ih =>
    exact (((clockFrame_graceExpiryEffect b t).trans (clockFrame_lostExpiryEffect b _)).trans
      (clockFrame_stallExpiryEffect b _)).trans (ih _)

/-- With no event of the sweep due, the sweep's part of the end of a TU is nothing. -/
theorem sweepOut_idle (k : Nat) (s : State) (hp : s.passStartDue = false) (hv : s.visitDue = false) :
    State.sweepOut k s = s := by
  cases k with
  | zero => rfl
  | succ k => simp [State.sweepOut, hp, hv]

/-- With no timer of the board run out, its part of the end of a TU is nothing. -/
theorem expireTimers_idle (s : State) (b : Bd) (hg : ((s.board b).state = .warming → s.ranOut (s.board b).graceEnd = false))
    (hl : s.ranOut (s.board b).lostExpiry = false) (hs : s.ranOut (s.board b).stallExpiry = false) :
    s.expireTimers b = s := by
  have h1 : graceExpiryEffect b s = s := by
    unfold graceExpiryEffect
    split
    · rename_i h
      simp [hg h.1] at h
    · rfl
  simp [State.expireTimers, h1, lostExpiryEffect, hl, stallExpiryEffect, hs]

/-- With nothing due, the end of a TU is nothing. -/
theorem endTu_idle (s : State) (hp : s.passStartDue = false) (hv : s.visitDue = false)
    (ht : ∀ b, ((s.board b).state = .warming → s.ranOut (s.board b).graceEnd = false)
      ∧ s.ranOut (s.board b).lostExpiry = false ∧ s.ranOut (s.board b).stallExpiry = false) : s.endTu = s := by
  unfold State.endTu
  rw [sweepOut_idle _ s hp hv]
  generalize allBoards = bs
  induction bs with
  | nil => rfl
  | cons b bs ih => rw [List.foldl_cons, expireTimers_idle s b (ht b).1 (ht b).2.1 (ht b).2.2, ih]

end Sys2Proof.Machine
end

