-- ==== Sys2Proof/WellFormed.lean ====
section
/-! DEFINITION. Which commands are well formed. The operands' types already hold every other bound (a board slot of an
event is below 32, a request's fields have their widths on the link, values outside a field's range are answered
OUT_OF_RANGE by the part and so are well-formed commands). -/

namespace Sys2Proof

/-- FRAME_ARRIVAL stands for the arrival of bytes on the receive line (R161), so it carries at least one byte. -/
def Instr.wellFormed : Instr → Bool
  | .frameArrival bytes => !bytes.isEmpty
  | .linkCheck | .lodge .. | .advance .. | .release .. | .lookup .. | .peek .. | .enrol .. | .reinstate .. | .retire ..
  | .declare .. | .absolve .. | .take .. | .purge .. | .report .. | .board .. | .device .. | .setgroupTimebase ..
  | .setgroupProfile .. | .setgroupLatency .. | .setgroupWeights .. | .setgroupThresholds .. | .setgroupHeartbeat ..
  | .setgroupGuard .. | .setgroupTable .. | .setgroupMasks .. | .getgroup .. | .setwatch .. | .notice .. | .test ..
  | .clear .. | .ident .. | .pinReset | .tuStep | .passStart | .sweepVisit | .graceExpiry .. | .pulse .. | .lostExpiry ..
  | .stallExpiry .. | .resetNReleased => true

end Sys2Proof
end

