-- ==== Sys2Proof/Tests/Slice0.lean ====
section
/-! SUPPORT. The model's own tests: the WellFormed smoke test, worked values of the spec, one-step tests on small states,
and for each statement with hypotheses a state and operands that meet them. -/

namespace Sys2Proof.Tests

set_option Elab.async false

open Sys2Proof Sys2Proof.Machine

/-! ## Small states -/

/-- The key of the record below. -/
def key0 : Key := ⟨1, 2⟩

/-- A decision record of class 0, lodged at 0 with deadline 300, in unit 0's watch set. -/
def payload0 : Payload :=
  { key := key0, cls := 0, lodgeTime := 0, deadline := 300, decision := none, routerTag := none, lateAuth := false
    lateSettle := false, overdue := none, watchSet := 1 }

/-- State.reset with board 3 in a state. -/
def boardIn (st : BoardState) : State := State.reset.modifyBoard 3 fun x => { x with state := st }

/-- State.reset with one record, in slot 0, of board 3 in a state, and a TU step waiting. -/
def oneRecord (st : BoardState) (stage : Stage) (parity : Bool) : State :=
  { (State.reset.modifyBoard 3 fun x => { x with state := st, outstanding := 1 }).setList 3 [0] with
    slots := [(0, .record stage 3 payload0 parity)], index := [(keyNumber key0, 0)], free := slotsFrom 1 8191
    occupancy := 1, pending := [.tuStep] }

/-- The parity code of the record above. -/
def clean0 : Bool := parityOf payload0

/-- A small table: four free slots, so that a test's states stay small. -/
def small (st : BoardState) : State :=
  { boardIn st with free := [0, 1, 2, 3], active := if st.isActive then 1 else 0, down := if st.isDown then 1 else 0 }

/-- What a command left, or the state before where it did not answer next. -/
def after (i : Instr) (s : State) : State :=
  match exec i s with
  | .next t => t
  | .fault _ => s
  | .refused _ => s

/-! ## WellFormed, the CRC and worked values -/

theorem test_wellFormed_refuses_empty_arrival : (Instr.frameArrival []).wellFormed = false := by decide

theorem test_wellFormed_takes_arrival : (Instr.frameArrival [0xA5]).wellFormed = true := by decide

theorem test_decode_none : decodeTableWord 16 0 = none := rfl

theorem test_latency_worked_4_3 :
    updatedLatency 2880 240 3 = 3000 ∧ updatedLatency 3000 100 3 = 2825 ∧ updatedLatency 2825 65535 3 = 133541 := by
  decide

theorem test_visit_rate_defaults : settledVpt 3 (some 200) = 3 := by decide

theorem test_response_bytes_ident_header :
    (Response.bytes ⟨0x13, 7, .none, [0]⟩).take 6 = [0xA5, 0x13, 7, 0x09, 1, 0] := by decide

/-! ## One step on a small state -/

theorem test_step_idles : step State.reset = .next State.reset := rfl

theorem test_lodge_answers :
    (after (.lodge 9 3 key0 0 none) (small .live)).tx = [⟨0x01, 9, .accepted, [0, 0, 0, 0, 2, 0xEE]⟩] := by decide +kernel

theorem test_lodge_absent_refused :
    (after (.lodge 9 4 key0 0 none) (small .live)).tx = [⟨0x01, 9, .boardState, [0, 0, 0]⟩] := by decide +kernel

theorem test_enrol_answers :
    (after (.enrol 1 5) (small .live)).tx = [⟨0x06, 1, .accepted, [1, 0, 0, 0x28, 0]⟩] := by decide +kernel

theorem test_declare_drains_idle_board :
    ((after (.declare 1 3) (small .live)).board 3).state = .drained
      ∧ (after (.declare 1 3) (small .live)).faultN = true ∧ (after (.declare 1 3) (small .live)).attnN = false := by
  decide +kernel

theorem test_purge_drained_board :
    (after (.purge 1 3) (small .drained)).tx = [⟨0x0C, 1, .accepted, [0, 0, 5, 0, 0, 0, 0]⟩] := by decide +kernel

theorem test_notice_none : (after (.notice 4) (small .live)).tx = [⟨0x13, 4, .none, [0]⟩] := by decide +kernel

theorem test_link_check_bad_code :
    (after .linkCheck { small .live with buffer := [frameOf 0x17 2 []] }).tx = [⟨0x17, 2, .badCode, []⟩] := by
  decide +kernel

theorem test_link_check_serves_notice :
    (after .linkCheck { small .live with buffer := [frameOf 0x13 2 []] }).tx = [⟨0x13, 2, .none, [0]⟩] := by
  decide +kernel

theorem test_reset_release_raises_ready :
    (after .resetNReleased { State.held with free := [] }).ready = true := by decide +kernel

theorem test_frame_arrival_buffers :
    (after (.frameArrival (frameOf 0x13 2 []).bytes) (small .live)).buffer = [frameOf 0x13 2 []] := by decide +kernel

theorem test_byte_on_line :
    byteOnLine 0xA5 = [.start, .data true, .data false, .data true, .data false, .data false, .data true, .data false,
      .data true, .stop] ∧ bytesFromLine (bytesOnLine [0xA5, 0x13]) = some [0xA5, 0x13]
      ∧ bytesFromLine [.start, .stop] = none := by decide

/-- A state between passes, so that nothing of the sweep is due. -/
def between (s : State) : State := { s with pass := .awaiting 9 }

theorem test_tuStep_takes_grace_expiry :
    let t := after .tuStep (between ((small .warming).modifyBoard 3 fun x => { x with graceEnd := some 0 }))
    (t.board 3).state = .live ∧ t.clock = 1 := by decide +kernel

theorem test_tuStep_takes_visits :
    let t := after .tuStep { small .live with pass := .running 0, effectiveVpt := 0 }
    t.sweepPosition = 64 ∧ t.clock = 1 := by decide +kernel

theorem test_group_table_default_report :
    (after (.getgroup 1 10) (small .live)).tx = [⟨0x11, 1, .group, [10, 1, 2, 0, 28, 0]⟩] := by decide +kernel

/-! ## The sound one-record states -/

theorem slot_oneRecord (st : BoardState) (stage : Stage) (q : Bool) (n : Nat) :
    (oneRecord st stage q).slot n = if 0 = n then some (.record stage 3 payload0 q) else none := rfl

theorem index_oneRecord (st : BoardState) (stage : Stage) (q : Bool) (k : Nat) :
    mapFind k (oneRecord st stage q).index = if keyNumber key0 = k then some 0 else none := rfl

theorem list_oneRecord (st : BoardState) (stage : Stage) (q : Bool) (b : Bd) :
    (oneRecord st stage q).list b = if b = 3 then [0] else [] := by
  fin_cases b <;> rfl

theorem board_oneRecord (st : BoardState) (stage : Stage) (q : Bool) (b : Bd) :
    (oneRecord st stage q).board b =
      if b = 3 then { Board.reset with state := st, outstanding := 1 } else Board.reset := by
  fin_cases b <;> rfl

/-- The one-record states of a board with a list are sound tables. -/
theorem oneRecord_tableWf (st : BoardState) (stage : Stage) (q : Bool) (h : st ≠ .absent ∧ st ≠ .drained) :
    (oneRecord st stage q).TableWf := by
  refine ⟨⟨by rfl, by rfl, ?_⟩, ?_, ?_, ?_⟩
  · intro n hn
    rw [slot_oneRecord] at hn
    split at hn
    · subst n; decide
    · simp at hn
  · refine ⟨fun n => ?_, fun j k n hj hk => ?_⟩
    · by_cases hn : (0 : Nat) = n
      · subst hn
        simp [State.holdsRecord, slot_oneRecord, index_oneRecord]
      · simp [State.holdsRecord, slot_oneRecord, index_oneRecord, hn]
    · rw [index_oneRecord] at hj hk
      split at hj <;> split at hk <;> simp_all
  · refine ⟨nodup_slotsFrom 1 8191, fun n => ?_, List.Pairwise.nil, fun n => ?_, ?_⟩
    · rw [slot_oneRecord]
      show n ∈ slotsFrom 1 8191 ↔ _
      rw [mem_slotsFrom]
      have : Config.recordSlots = 8192 := rfl
      split <;> simp <;> omega
    · rw [slot_oneRecord]
      show n ∈ ([] : List Nat) ↔ _
      split <;> simp
    · show 1 + (slotsFrom 1 8191).length = 8192
      rw [length_slotsFrom]
  · intro b
    have hl : ∀ n, (oneRecord st stage q).linkedTo b n = (decide (b = 3) && decide (0 = n)) := by
      intro n
      unfold State.linkedTo
      rw [slot_oneRecord]
      by_cases hn : (0 : Nat) = n <;> simp [hn, eq_comm]
    have hd : (oneRecord st stage q).isDamagedSlot 0 = false := rfl
    rw [list_oneRecord, board_oneRecord]
    by_cases hb : b = 3
    · subst hb
      simp [hl, hd, h, eq_comm, Board.reset]
    · simp [hl, hb, Board.reset]

/-- The one-record states with the right parity code read clean. -/
theorem oneRecord_cleanWf (st : BoardState) (stage : Stage) : (oneRecord st stage clean0).CleanWf := by
  intro n s b p q h
  rw [slot_oneRecord] at h
  split at h
  · next hn =>
    subst hn
    simp only [Option.some.injEq, Slot.record.injEq] at h
    obtain ⟨-, -, rfl, rfl⟩ := h
    exact ⟨readsClean_parityOf _, by unfold State.lookupKey; rw [index_oneRecord]; simp [payload0]⟩
  · simp at h

/-! ## A state and operands for the hypotheses of each statement -/

theorem test_StepTakesFrontCommand_hypotheses :
    ({ State.reset with pending := [.tuStep, .linkCheck] } : State).pending = .tuStep :: [.linkCheck]
      ∧ State.reset.pending = [] := by decide

theorem test_ResetPinReleased_hypotheses :
    State.held.resetHeld = true ∧ State.reset.resetHeld = false ∧ Instr.tuStep ≠ .pinReset
      ∧ Instr.tuStep ≠ .resetNReleased := by decide

/-- A well-formed NOTICE frame. -/
def noticeFrame : Frame := frameOf 0x13 2 []

theorem test_FramesArrive_hypotheses :
    State.reset.resetHeld = false ∧ State.reset.rx = .hunting ∧ noticeFrame.len.toNat ≤ 48
      ∧ noticeFrame.payload.length = noticeFrame.len.toNat
      ∧ ({ State.reset with buffer := List.replicate 15 noticeFrame } : State).buffer.length < 16
      ∧ 16 ≤ ({ State.reset with buffer := List.replicate 16 noticeFrame } : State).buffer.length
      ∧ 48 < (49 : Byte).toNat ∧ 48 < (255 : Byte).toNat ∧ State.reset.buffer.length < 16 ∧ (∀ b ∈ [(0xA4 : Byte), 0xA6], b ≠ 0xA5) := by
  decide

theorem test_LinkCheckRefuses_hypotheses :
    ({ State.reset with buffer := [noticeFrame] } : State).buffer = noticeFrame :: []
      ∧ (⟨0x13, 2, 49, [], 0⟩ : Frame).overLong = true
      ∧ crc ({ noticeFrame with crc := 0 } : Frame).covered ≠ ({ noticeFrame with crc := 0 } : Frame).crc
      ∧ ((frameOf 0x17 2 []).overLong = false ∧ crc (frameOf 0x17 2 []).covered = (frameOf 0x17 2 []).crc
        ∧ (frameOf 0x17 2 []).code ≠ 0x10 ∧ requestLengths (frameOf 0x17 2 []).code.toNat = none)
      ∧ (requestLengths (frameOf 0x16 2 [0]).code.toNat = some [0] ∧ (frameOf 0x16 2 [0]).payload.length ∉ [0])
      ∧ ((frameOf 0x10 2 []).code = 0x10 ∧ (frameOf 0x10 2 []).payload = []
        ∧ crc (frameOf 0x10 2 []).covered = (frameOf 0x10 2 []).crc) := by
  decide +kernel

theorem test_LinkCheckRefuses_setgroup :
    let lengths := [3, 8, 8, 8, 8, 3, 12, 7, 9, 4, 4, 3]
    ∀ f ∈ [frameOf 0x10 2 [12], frameOf 0x10 2 [11, 0, 0], frameOf 0x10 2 [0]],
      f.overLong = false ∧ crc f.covered = f.crc ∧ f.code = 0x10
        ∧ ((f.payload = [12] ∧ 12 ≤ (12 : Byte).toNat)
          ∨ (f.payload = [11, 0, 0] ∧ lengths[(11 : Byte).toNat]? = some 3 ∧ [(0 : Byte), 0].length ≠ 3)
          ∨ (f.payload = [0] ∧ lengths[(0 : Byte).toNat]? = some 3 ∧ ([] : List Byte).length ≠ 3)) := by
  decide +kernel

theorem test_RequestFrameTaken_hypotheses :
    requestFrame (.notice 2) = some noticeFrame
      ∧ ({ State.reset with buffer := [noticeFrame] } : State).buffer = noticeFrame :: []
      ∧ State.reset.buffer = []
      ∧ parseFrame (frameOf 0x16 2 []) ≠ .request (.notice 2) := by
  decide +kernel

theorem test_RequestFramesReadBack_hypotheses :
    requestFrame (.setgroupMasks 255 ⟨4095, 31⟩) = some (frameOf 0x10 255 [11, 15, 255, 31]) := by decide +kernel

theorem test_LodgeAccepted_hypotheses :
    (boardIn .live).resetHeld = false ∧ (boardIn .live).halted = false ∧ (3 : Byte).toNat = (3 : Bd).val
      ∧ (3 : Byte).toNat = (3 : Fin 4).val ∧ InService ((boardIn .live).board 3).state
      ∧ ((boardIn .live).profile 3).valid = true ∧ (boardIn .live).lookupKey key0 = none
      ∧ ((boardIn .live).board 3).outstanding < (boardIn .live).quota := by
  unfold InService
  decide +kernel

theorem test_LodgeAccepted_free : (boardIn .live).free = 0 :: slotsFrom 1 8191 := by
  show slotsFrom 0 8192 = 0 :: slotsFrom 1 8191
  rw [slotsFrom_eq, slotsFrom_eq, List.range'_succ]

theorem test_LodgeRefused_hypotheses :
    ({ State.reset with halted := true } : State).halted = true ∧ 32 ≤ (32 : Byte).toNat ∧ (31 : Byte).toNat < 32
      ∧ 4 ≤ (4 : Byte).toNat ∧ ¬ InService (State.reset.board 3).state ∧ InService ((boardIn .doubtful).board 3).state
      ∧ (((boardIn .live).modifyGroups fun g =>
          { g with profiles := g.profiles.set 0 { g.profiles[0] with valid := false } }).profile 0).valid = false
      ∧ (oneRecord .live .lodged clean0).lookupKey key0 ≠ none
      ∧ ((boardIn .live).modifyBoard 3 fun x => { x with outstanding := 512 }).quota
          ≤ (((boardIn .live).modifyBoard 3 fun x => { x with outstanding := 512 }).board 3).outstanding
      ∧ ({ boardIn .live with free := [] } : State).free = [] := by
  unfold InService
  decide +kernel

theorem test_LatenessJudged_hypotheses :
    InService .warming ∧ InService .live ∧ InService .doubtful ∧ payload0.overdue = none
      ∧ ((300 : Time) - payload0.deadline).toNat < 2 ^ 31 ∧ 2 ^ 31 ≤ ((299 : Time) - payload0.deadline).toNat
      ∧ ({ payload0 with overdue := some ⟨300, false⟩ } : Payload).overdue ≠ none := by
  unfold InService
  decide +kernel

theorem test_LatencyEstimateMoves_hypotheses :
    (1048560 : Nat) ≤ 1048560 ∧ (65535 : Nat) ≤ 65535 ∧ (1 : Nat) ≤ 6 ∧ (1048560 : Nat) ≤ 16 * 65535
      ∧ 16 * 0 < (1 : Nat) := by decide

theorem test_AdvanceRestages_hypotheses :
    let s := oneRecord .live .lodged clean0
    s.resetHeld = false ∧ s.halted = false ∧ s.lookupKey key0 = some 0
      ∧ s.slot 0 = some (.record .lodged 3 payload0 clean0) ∧ InService (s.board 3).state
      ∧ readsClean payload0 clean0 = true ∧ payload0.key = key0 := by
  unfold InService
  decide +kernel

theorem test_AdvanceAndReleaseRefused_hypotheses :
    ({ State.reset with halted := true } : State).halted = true ∧ State.reset.lookupKey key0 = none
      ∧ ((oneRecord .silent .lodged clean0).board 3).state = .silent
      ∧ ((oneRecord .live .decided clean0).board 3).state ≠ .silent
      ∧ (oneRecord .live .decided clean0).slot 0 = some (.record .decided 3 payload0 clean0)
      ∧ (oneRecord .live .lodged (!clean0)).lookupKey key0 = some 0
      ∧ (oneRecord .live .lodged (!clean0)).slot 0 = some (.record .lodged 3 payload0 (!clean0))
      ∧ readsClean payload0 (!clean0) = false ∧ 4 ≤ (4 : Byte).toNat ∧ (3 : Byte).toNat ≤ 3 := by
  decide +kernel

theorem test_ReleaseRetires_hypotheses :
    let s := oneRecord .doubtful .decided clean0
    s.resetHeld = false ∧ s.halted = false ∧ (3 : Byte).toNat ≤ 3 ∧ s.lookupKey key0 = some 0
      ∧ s.slot 0 = some (.record .decided 3 payload0 clean0) ∧ InService (s.board 3).state
      ∧ readsClean payload0 clean0 = true ∧ payload0.key = key0 ∧ s.removalSound 3 0 = true := by
  unfold InService
  decide +kernel

theorem test_ReleaseOfHeldRecord_hypotheses :
    let s := oneRecord .silent .lodged clean0
    s.resetHeld = false ∧ s.halted = false ∧ (0 : Byte).toNat ≤ 3 ∧ s.lookupKey key0 = some 0
      ∧ s.slot 0 = some (.record .lodged 3 payload0 clean0) ∧ (s.board 3).state = .silent
      ∧ readsClean payload0 clean0 = true ∧ payload0.key = key0 ∧ s.removalSound 3 0 = true := by
  decide +kernel

theorem test_LookupAndPeekReport_hypotheses :
    State.reset.lookupKey key0 = none ∧ 8192 ≤ (8192 : BitVec 16).toNat ∧ (8191 : BitVec 16).toNat < 8192
      ∧ State.reset.slot (8191 : BitVec 16).toNat = none
      ∧ ({ State.reset with slots := [(5, .unattributed)] } : State).slot (5 : BitVec 16).toNat = some .unattributed
      ∧ ({ State.reset with slots := [(5, .damaged 3 payload0 clean0)] } : State).slot (5 : BitVec 16).toNat
          = some (.damaged 3 payload0 clean0)
      ∧ (oneRecord .live .lodged clean0).slot (0 : BitVec 16).toNat = some (.record .lodged 3 payload0 clean0)
      ∧ readsClean payload0 clean0 = true ∧ readsClean payload0 (!clean0) = false
      ∧ (oneRecord .live .lodged (!clean0)).slot (0 : BitVec 16).toNat
          = some (.record .lodged 3 payload0 (!clean0)) := by
  decide +kernel

theorem test_DamagedRecordKeepsItsPlace_hypotheses :
    mapWf (oneRecord .live .lodged (!clean0)).index = true
      ∧ ((oneRecord .live .lodged (!clean0)).damageRecord 0 3 payload0 (!clean0)).slot 0
          = some (.damaged 3 payload0 (!clean0))
      ∧ bitsChanged payload0 { payload0 with deadline := 301 } % 2 = 1
      ∧ bitsChanged payload0 { payload0 with overdue := some ⟨1, true⟩ } % 2 = 1 := by
  decide +kernel

theorem test_IndexFailureHalts_hypotheses :
    let s : State := { State.reset with index := [(keyNumber key0, 7)] }
    let t : State := { oneRecord .live .lodged clean0 with index := [(keyNumber ⟨1, 3⟩, 0)] }
    s.resetHeld = false ∧ s.halted = false ∧ (3 : Byte).toNat ≤ 3 ∧ s.lookupKey key0 = some 7 ∧ s.holdsRecord 7 = false
      ∧ t.lookupKey ⟨1, 3⟩ = some 0 ∧ t.slot 0 = some (.record .lodged 3 payload0 clean0) ∧ (t.board 3).state ≠ .silent
      ∧ readsClean payload0 clean0 = true ∧ payload0.key ≠ ⟨1, 3⟩ := by
  decide +kernel

theorem test_IndexFailureHalts_other_key_and_halted :
    let t : State := { oneRecord .silent .decided clean0 with index := [(keyNumber ⟨1, 3⟩, 0)] }
    t.lookupKey ⟨1, 3⟩ = some 0 ∧ t.slot 0 = some (.record .decided 3 payload0 clean0) ∧ payload0.key ≠ ⟨1, 3⟩
      ∧ ({ t with halted := true } : State).halted = true ∧ ({ t with halted := true } : State).lookupKey ⟨1, 3⟩ = some 0
      ∧ ({ State.reset with halted := true, index := [(keyNumber key0, 7)] } : State).lookupKey key0 = some 7
      ∧ ({ State.reset with halted := true, index := [(keyNumber key0, 7)] } : State).holdsRecord 7 = false := by
  decide +kernel

theorem test_IndexFailureHalts_removal :
    let s := oneRecord .live .lodged clean0
    s.lookupKey key0 = some 0 ∧ s.slot 0 = some (.record .lodged 3 payload0 clean0) ∧ payload0.key = key0
      ∧ 0 ∉ (s.setList 3 []).list 3
      ∧ (∃ k ∈ ((s.setList 3 [7, 0]).list 3).takeWhile (fun k => decide (k ≠ 0)), s.linkedTo 3 k = false)
      ∧ (((s.modifyBoard 3 fun x => { x with outstanding := 2 }).list 3).erase 0 = []
        ∧ ((s.modifyBoard 3 fun x => { x with outstanding := 2 }).list 3).length
          ≠ ((s.modifyBoard 3 fun x => { x with outstanding := 2 }).board 3).outstanding) := by
  decide +kernel

theorem test_EnrolAndReinstateEnterWarming_hypotheses :
    State.reset.resetHeld = false ∧ (31 : Byte).toNat = (31 : Bd).val ∧ (State.reset.board 31).state = .absent
      ∧ State.reset.cause 31 = none ∧ ((boardIn .drained).board 3).state = .drained ∧ (boardIn .drained).cause 3 = none := by
  decide +kernel

theorem test_RetireLeavesService_hypotheses :
    ((boardIn .warming).board 3).state = .warming ∧ ((boardIn .live).board 3).state = .live
      ∧ ((boardIn .drained).board 3).state = .drained ∧ ((boardIn .drained).board 3).outstanding = 0
      ∧ (boardIn .drained).cause 3 = none ∧ (3 : Byte).toNat = (3 : Bd).val := by
  decide +kernel

theorem test_AbsolveClearsScore_hypotheses :
    Chargeable ((boardIn .live).board 3).state ∧ Chargeable ((boardIn .doubtful).board 3).state
      ∧ (boardIn .doubtful).resetHeld = false := by
  unfold Chargeable
  decide +kernel

theorem test_DeclareSilencesBoard_hypotheses :
    let s := oneRecord .warming .lodged clean0
    (s.resetHeld = false ∧ (3 : Byte).toNat = (3 : Bd).val ∧ s.down < s.maxDown) ∧ InService (s.board 3).state ∧ s.TableWf :=
  ⟨by decide +kernel, .inl rfl, oneRecord_tableWf _ _ _ ⟨by decide, by decide⟩⟩

theorem test_DeclareSilencesBoard_unclean :
    let s := oneRecord .live .lodged (!clean0)
    (0 ∈ s.list 3 ∧ s.slot 0 = some (.record .lodged 3 payload0 (!clean0)) ∧ readsClean payload0 (!clean0) = false)
      ∧ s.TableWf :=
  ⟨by decide +kernel, oneRecord_tableWf _ _ _ ⟨by decide, by decide⟩⟩

theorem test_GrantHoldsRecords_hypotheses :
    let s := oneRecord .doubtful .lodged clean0
    s.TableWf ∧ s.CleanWf ∧ InService (s.board 3).state :=
  ⟨oneRecord_tableWf _ _ _ ⟨by decide, by decide⟩, oneRecord_cleanWf _ _, .inr (.inr rfl)⟩

theorem test_GrantHoldsRecords_walks :
    let s := oneRecord .live .lodged (!clean0)
    (∀ n ∈ s.list 3, s.linkedTo 3 n = true) ∧ (s.list 3).length = (s.board 3).outstanding
      ∧ (s.setList 3 [0, 7, 9]).list 3 = [0] ++ 7 :: [9] ∧ (∀ n ∈ [0], s.linkedTo 3 n = true) ∧ s.linkedTo 3 7 = false := by
  decide +kernel

theorem test_BoardRequestsRefused_hypotheses :
    32 ≤ (32 : Byte).toNat ∧ (31 : Byte).toNat = (31 : Bd).val ∧ ((boardIn .warming).board 3).state ≠ .absent
      ∧ (State.reset.board 31).state ≠ .drained ∧ (State.reset.board 31).state = .absent
      ∧ ((boardIn .doubtful).board 3).state = .doubtful ∧ ((boardIn .silent).board 3).state = .silent
      ∧ 0 < ((oneRecord .live .lodged clean0).board 3).outstanding ∧ ¬ InService (State.reset.board 31).state
      ∧ InService ((boardIn .live).board 3).state
      ∧ ({ boardIn .live with down := 4 } : State).maxDown ≤ ({ boardIn .live with down := 4 } : State).down
      ∧ ¬ Chargeable ((boardIn .warming).board 3).state := by
  unfold InService Chargeable
  decide +kernel

theorem test_ReportComparesCounts_hypotheses :
    InService ((boardIn .warming).board 3).state ∧ ((boardIn .warming).board 3).baseline = none
      ∧ (((boardIn .live).modifyBoard 3 fun x => { x with baseline := some 7 }).board 3).baseline = some 7
      ∧ InService (((boardIn .live).modifyBoard 3 fun x => { x with baseline := some 7 }).board 3).state := by
  unfold InService
  decide +kernel

theorem test_StatusRequestsChangeNothing_hypotheses :
    State.reset.resetHeld = false ∧ (31 : Byte).toNat = (31 : Bd).val ∧ (2 : Byte).toNat ≤ 2 ∧ 3 ≤ (3 : Byte).toNat
      ∧ (11 : Byte).toNat ≤ 11 ∧ 12 ≤ (12 : Byte).toNat := by decide

theorem test_StatusRequestsChangeNothing_parts :
    State.reset.devicePart (2 : Byte).toNat = some State.reset.devicePart2
      ∧ State.reset.groupReport (11 : Byte).toNat = some (groupPayload 11 Masks.bytes State.reset.groups.masks) := ⟨rfl, rfl⟩

theorem test_ChargeSteps_hypotheses :
    ¬ Chargeable (State.reset.board 3).state ∧ Chargeable ((boardIn .live).board 3).state := by
  unfold Chargeable
  decide +kernel

/-- Two DOUBTFUL boards of twelve held the common-cause state, and CC_PCT has then been disturbed from 10 to 100: board 3
pending, board 4 LIVE just below A. -/
def disturbed : State :=
  let s := { boardIn .live with active := 12, doubtful := 2, commonCause := true }
  let t := (s.modifyBoard 4 fun x => { x with state := .live, score := 511 }).withhold 3 .common
  (t.modifyBoard 3 fun x => { x with state := .doubtful, score := 1024 }).modifyGroups fun g =>
    { g with guard := { g.guard with fields := ⟨4, 100, 4⟩ } }

theorem test_charge_reconsiders_exit :
    let t := disturbed.charge 4 .racing
    (t.board 4).state = .doubtful ∧ t.commonCause = false ∧ (t.board 3).state = .drained ∧ t.cause 3 = none
      ∧ t.latches.common = some ⟨0, .exit, false⟩ ∧ t.down = 1 := by
  decide +kernel

theorem test_grace_and_drain_latch_no_common :
    let s := disturbed.modifyBoard 5 fun x => { x with state := .warming, graceEnd := some 0 }
    let t := disturbed.modifyBoard 5 fun x => { x with state := .silent, outstanding := 1 }
    (graceExpiryEffect 5 s).latches.common = none ∧ ((graceExpiryEffect 5 s).board 5).state = .live
      ∧ ((t.setList 5 [7]).leaveList 5 7 false).latches.common = none
      ∧ (((t.setList 5 [7]).leaveList 5 7 false).board 5).state = .drained := by
  decide +kernel

theorem test_VerdictRequestAnswered_hypotheses :
    ({ State.reset with commonCause := true } : State).commonCause = true ∧ State.reset.commonCause = false
      ∧ (State.reset.modifyGroups fun g => { g with masks := { g.masks with valid := false } }).groups.valids.all id = false
      ∧ State.reset.groups.valids.all id = true
      ∧ ({ State.reset with down := 4 } : State).maxDown ≤ ({ State.reset with down := 4 } : State).down
      ∧ ({ State.reset with down := 3 } : State).down < ({ State.reset with down := 3 } : State).maxDown := by
  decide +kernel

theorem test_CommonCauseReevaluated_hypotheses :
    State.reset.reevaluateCommon.commonCause = State.reset.commonCause
      ∧ ({ State.reset with doubtful := 2, active := 8 } : State).reevaluateCommon.commonCause
          ≠ ({ State.reset with doubtful := 2, active := 8 } : State).commonCause := by
  decide +kernel

theorem test_ReconsiderationGrantsAndCompletes_hypotheses :
    let s := (boardIn .doubtful).setCause 3 (some .common)
    s.withholdCause = none ∧ s.cause 3 ≠ none
      ∧ (∀ c, s.cause c ≠ none → (s.board c).score < (s.board 3).score ∨ ((s.board c).score = (s.board 3).score ∧ 3 ≤ c))
      ∧ ({ s with down := 4 } : State).withholdCause = some .limit ∧ s.cause 3 ≠ some .limit := by
  decide +kernel

theorem test_TakeHandsOver_hypotheses :
    let s := oneRecord .silent .decided clean0
    (s.resetHeld = false ∧ s.halted = false ∧ (3 : Byte).toNat = (3 : Bd).val ∧ 1 ≤ (8 : Byte).toNat ∧ (8 : Byte).toNat ≤ 8
      ∧ (s.board 3).state = .silent) ∧ s.TableWf :=
  ⟨by decide +kernel, oneRecord_tableWf _ _ _ ⟨by decide, by decide⟩⟩

theorem test_PurgeFreesDamaged_hypotheses :
    let s := oneRecord .silent .decided clean0
    (s.resetHeld = false ∧ s.halted = false ∧ (3 : Byte).toNat = (3 : Bd).val) ∧ s.TableWf :=
  ⟨by decide +kernel, oneRecord_tableWf _ _ _ ⟨by decide, by decide⟩⟩

theorem test_HandoverRefused_hypotheses :
    let s := { oneRecord .silent .decided clean0 with slots := [] }
    ({ s with halted := true } : State).halted = true ∧ s.halted = false ∧ 32 ≤ (32 : Byte).toNat ∧ (32 : Byte) ≠ 255
      ∧ (0 : Byte).toNat = 0 ∧ 8 < (9 : Byte).toNat ∧ (State.reset.board 3).state ≠ .silent
      ∧ 0 ∈ (s.list 3).take (min (1 : Byte).toNat (s.board 3).outstanding) ∧ s.linkedTo 3 0 = false
      ∧ (s.board 3).state = .silent := by
  decide +kernel

theorem test_HandoverRefused_structure :
    let s := oneRecord .silent .decided clean0
    let t := s.modifyBoard 3 fun x => { x with outstanding := 2 }
    let d : State := { t with slots := [(0, .damaged 3 payload0 clean0)] }
    (∃ k ∈ (s.setList 3 [0, 7]).list 3, s.linkedTo 3 k = false)
      ∧ (t.list 3).length ≤ min (8 : Byte).toNat (t.board 3).outstanding ∧ (t.list 3).length ≠ (t.board 3).outstanding
      ∧ d.list 3 ≠ [] ∧ (∀ k ∈ d.list 3, d.isDamagedSlot k = true) ∧ (d.list 3).length ≠ (d.board 3).outstanding := by
  decide +kernel

theorem test_GroupsWritten_hypotheses :
    (∀ f ∈ [(⟨0, 0, 0⟩ : Timebase), ⟨3, 3, 5⟩], f.pre.toNat ≤ 3 ∧ f.div.toNat ≤ 3 ∧ f.vpt.toNat ≤ 5)
      ∧ (∀ f ∈ [(⟨1, 1, 4, 1⟩ : Profile)],
        1 ≤ f.authFloor.toNat ∧ f.authFloor.toNat ≤ f.authCeil.toNat ∧ 4 ≤ f.k.toNat ∧ 1 ≤ f.settle.toNat)
      ∧ (∀ f ∈ [(⟨1, 1⟩ : Latency), ⟨1, 6⟩], 1 ≤ f.seedLat.toNat ∧ 1 ≤ f.gain.toNat ∧ f.gain.toNat ≤ 6)
      ∧ (∀ f ∈ [(⟨1, 2, 1, 1, 3⟩ : Heartbeat)], 1 ≤ f.hbMin.toNat ∧ f.hbMin.toNat < f.hbMax.toNat
        ∧ 1 ≤ f.stallLimit.toNat ∧ 1 ≤ f.grace.toNat ∧ f.gdiv.toNat ≤ 3)
      ∧ (∀ f ∈ [(⟨1023, 0, 1023, 0, 0, 1023⟩ : Weights)], f.wAuth.toNat ≤ 1023 ∧ f.wSettle.toNat ≤ 1023
        ∧ f.wStall.toNat ≤ 1023 ∧ f.wLost.toNat ≤ 1023 ∧ f.wRacing.toNat ≤ 1023 ∧ f.wXcheck.toNat ≤ 1023
        ∧ f ≠ ⟨0, 0, 0, 0, 0, 0⟩)
      ∧ (∀ f ∈ [(⟨1, 257⟩ : TableSettings), ⟨8192, 8192⟩], 1 ≤ f.quota.toNat ∧ f.quota.toNat ≤ 8192
        ∧ 257 ≤ f.highMark.toNat ∧ f.highMark.toNat ≤ 8192)
      ∧ (∀ f ∈ [(⟨4095, 31⟩ : Masks)], f.noticeMask.toNat ≤ 4095 ∧ f.faultMask.toNat ≤ 31)
      ∧ ∀ f ∈ [(⟨1, 0, 0⟩ : Guard), ⟨16, 100, 1023⟩], 1 ≤ f.maxDown.toNat ∧ f.maxDown.toNat ≤ 16 ∧ f.ccPct.toNat ≤ 100
        ∧ f.xchkTol.toNat ≤ 1023 ∧ ({ State.reset with down := 1 } : State).down ≤ f.maxDown.toNat := by
  decide +kernel

theorem test_ThresholdsReevaluateBoards_hypotheses :
    let s : State := State.reset
    ThresholdsLegal s.effThresholds ∧ ThresholdsLegal ⟨2, 1, 3, 1⟩ ∧ ThresholdsLegal ⟨4094, 4093, 4095, 8⟩
      ∧ ¬ Chargeable (s.board 3).state ∧ ((boardIn .live).board 3).score < 512
      ∧ 512 ≤ (((boardIn .live).modifyBoard 3 fun x => { x with score := 512 }).board 3).score
      ∧ 1024 ≤ (((boardIn .doubtful).modifyBoard 3 fun x => { x with score := 1024, pending := true }).board 3).score
      ∧ ((boardIn .doubtful).board 3).pending = false ∧ ((boardIn .doubtful).board 3).score < 1024 := by
  unfold ThresholdsLegal Chargeable
  decide +kernel

theorem test_SetgroupRefused_timebase_profile_latency :
    3 < (⟨4, 0, 0⟩ : Timebase).pre.toNat ∧ 3 < (⟨3, 4, 0⟩ : Timebase).div.toNat ∧ 5 < (⟨3, 3, 6⟩ : Timebase).vpt.toNat
      ∧ (⟨0, 1, 4, 1⟩ : Profile).authFloor = 0 ∧ (⟨1, 0, 4, 1⟩ : Profile).authCeil = 0 ∧ (⟨1, 1, 3, 1⟩ : Profile).k.toNat < 4
      ∧ (⟨1, 1, 4, 0⟩ : Profile).settle = 0 ∧ (⟨2, 1, 4, 1⟩ : Profile).authCeil.toNat < (⟨2, 1, 4, 1⟩ : Profile).authFloor.toNat
      ∧ (⟨0, 1⟩ : Latency).seedLat = 0 ∧ (⟨1, 0⟩ : Latency).gain = 0 ∧ 6 < (⟨1, 7⟩ : Latency).gain.toNat := by
  decide

theorem test_SetgroupRefused_weights_thresholds :
    1023 < (⟨1024, 0, 0, 0, 0, 0⟩ : Weights).wAuth.toNat ∧ 1023 < (⟨1023, 1024, 0, 0, 0, 0⟩ : Weights).wSettle.toNat
      ∧ 1023 < (⟨0, 0, 1024, 0, 0, 0⟩ : Weights).wStall.toNat ∧ 1023 < (⟨0, 0, 0, 1024, 0, 0⟩ : Weights).wLost.toNat
      ∧ 1023 < (⟨0, 0, 0, 0, 1024, 0⟩ : Weights).wRacing.toNat ∧ 1023 < (⟨0, 0, 0, 0, 0, 1024⟩ : Weights).wXcheck.toNat
      ∧ (⟨1, 1, 3, 1⟩ : Thresholds).alert.toNat < 2 ∧ 4094 < (⟨4095, 1, 3, 1⟩ : Thresholds).alert.toNat
      ∧ (⟨2, 0, 3, 1⟩ : Thresholds).hysteresis = 0 ∧ 4093 < (⟨4094, 4094, 3, 1⟩ : Thresholds).hysteresis.toNat
      ∧ (⟨2, 1, 2, 1⟩ : Thresholds).verdict.toNat < 3 ∧ 4095 < (⟨2, 1, 4096, 1⟩ : Thresholds).verdict.toNat
      ∧ (⟨2, 1, 3, 0⟩ : Thresholds).creditShift = 0 ∧ 8 < (⟨2, 1, 3, 9⟩ : Thresholds).creditShift.toNat
      ∧ (⟨2, 2, 3, 1⟩ : Thresholds).alert.toNat ≤ (⟨2, 2, 3, 1⟩ : Thresholds).hysteresis.toNat
      ∧ (⟨3, 2, 3, 1⟩ : Thresholds).verdict.toNat ≤ (⟨3, 2, 3, 1⟩ : Thresholds).alert.toNat := by
  decide

theorem test_SetgroupRefused_rest :
    (⟨0, 2, 1, 1, 0⟩ : Heartbeat).hbMin = 0 ∧ (⟨1, 0, 1, 1, 0⟩ : Heartbeat).hbMax = 0
      ∧ (⟨1, 2, 0, 1, 0⟩ : Heartbeat).stallLimit = 0 ∧ (⟨1, 2, 1, 0, 0⟩ : Heartbeat).grace = 0
      ∧ 3 < (⟨1, 2, 1, 1, 4⟩ : Heartbeat).gdiv.toNat
      ∧ (⟨2, 2, 1, 1, 0⟩ : Heartbeat).hbMax.toNat ≤ (⟨2, 2, 1, 1, 0⟩ : Heartbeat).hbMin.toNat
      ∧ (⟨0, 0, 0⟩ : Guard).maxDown = 0 ∧ 16 < (⟨17, 0, 0⟩ : Guard).maxDown.toNat
      ∧ 100 < (⟨1, 101, 0⟩ : Guard).ccPct.toNat ∧ 1023 < (⟨1, 100, 1024⟩ : Guard).xchkTol.toNat
      ∧ (⟨1, 100, 1023⟩ : Guard).maxDown.toNat < ({ State.reset with down := 2 } : State).down
      ∧ (⟨0, 257⟩ : TableSettings).quota = 0 ∧ 8192 < (⟨8193, 257⟩ : TableSettings).quota.toNat
      ∧ (⟨1, 256⟩ : TableSettings).highMark.toNat < 257 ∧ 8192 < (⟨8192, 8193⟩ : TableSettings).highMark.toNat
      ∧ 4095 < (⟨4096, 0⟩ : Masks).noticeMask.toNat ∧ 31 < (⟨4095, 32⟩ : Masks).faultMask.toNat := by
  decide

theorem test_WatchUnitWritten_hypotheses :
    4 ≤ (4 : Byte).toNat ∧ (3 : Byte).toNat = (3 : Fin 4).val ∧ 2 < (3 : Byte).toNat ∧ (1 : Fin 4) ≠ 0
      ∧ 32 ≤ (32 : Byte).toNat ∧ (31 : Byte).toNat < 32 ∧ (30 : Byte).toNat < (31 : Byte).toNat
      ∧ ¬ (2 < (2 : Byte).toNat ∨ (2 : Byte) = 2 ∧ (0 : Fin 4) ≠ 0) ∧ (31 : Byte).toNat = (31 : Bd).val
      ∧ (31 : Bd) ≤ 31 := by
  decide

theorem test_NoticeFetchesFirstLatch_hypotheses :
    let l := (State.reset.latchDamage 4 none).latches
    (∀ r ∈ latchOrder, State.reset.latches.isSet r = false) ∧ l.isSet .damage = true
      ∧ ∀ q ∈ latchOrder, l.isSet q = true → LatchRef.damage.priority < q.priority
        ∨ (LatchRef.damage.priority = q.priority ∧ LatchRef.damage.place.toNat ≤ q.place.toNat) := by
  decide +kernel

/-- One latch of each kind but WATCH and LINK set, and of these by test_NoticeFetchesFirstLatch_kinds. -/
def latched : State :=
  ((((((((((State.reset.latchHalted .keyIndex).latchParamFault 3).latchVerdict 31 .declared).latchCommon .entry).latchWithheld
    0 .param).latchDoubt 31 .thresholds).latchHeartbeat 0 true false).latchDamage 8191 none).latchTableHigh).latchTestDone
    .pass .empty)

theorem test_NoticeFetchesFirstLatch_kinds :
    latched.latches.halted = some ⟨0, .keyIndex⟩ ∧ latched.latches.paramFault = some ⟨0, 3⟩
      ∧ (latched.latches.verdict[(31 : Bd).val]) = some ⟨0, .declared⟩ ∧ latched.latches.common = some ⟨0, .entry, false⟩
      ∧ (latched.latches.withheld[(0 : Bd).val]) = some ⟨0, .param⟩
      ∧ (latched.latches.doubt[(31 : Bd).val]) = some ⟨0, .thresholds⟩
      ∧ (latched.latches.heartbeat[(0 : Bd).val]) = some ⟨0, true, false⟩ ∧ latched.latches.damage = some ⟨0, 8191, none, 1⟩
      ∧ latched.latches.tableHigh = some ⟨0, 0⟩ ∧ latched.latches.testDone = some ⟨0, .pass, .empty⟩
      ∧ ((State.reset.latchWatch 3 .take 8191 31 key0).latches.watch[(3 : Fin 4).val])
          = some ⟨0, .take, 8191, 31, key0, false⟩
      ∧ State.reset.latchLink.latches.link = some ⟨0, 1⟩ := by
  decide +kernel

theorem test_SelfTestRequested_hypotheses :
    State.reset.resetHeld = false ∧ State.reset.halted = false ∧ (1 : Byte).toNat ≤ 1
      ∧ State.reset.selfTest.running = false ∧ ThresholdsLegal State.reset.effThresholds
      ∧ State.reset.effWeights ≠ ⟨0, 0, 0, 0, 0, 0⟩ ∧ ({ State.reset with halted := true } : State).halted = true
      ∧ 2 ≤ (2 : Byte).toNat
      ∧ ({ State.reset with selfTest := { SelfTest.reset with running := true, phase := .waiting } } : State).selfTest.running
          = true := by
  unfold ThresholdsLegal
  decide +kernel

theorem test_GroupsVerified_hypotheses :
    (⟨⟨4095, 31⟩, ⟨4095, 31⟩, true⟩ : Machine.Group Masks).codeOver = ⟨4095, 31⟩
      ∧ (⟨⟨4095, 31⟩, ⟨0, 0⟩, true⟩ : Machine.Group Masks).codeOver ≠ ⟨4095, 31⟩
      ∧ (⟨⟨4095, 31⟩, ⟨0, 0⟩, false⟩ : Machine.Group Masks).valid = false ∧ (11 : Nat) < 12 := by
  decide

theorem test_ClearResetsCustody_hypotheses :
    State.reset.resetHeld = false ∧ (State.reset.board 3).state = .absent ∧ ((boardIn .silent).board 3).state ≠ .absent
      ∧ State.reset.selfTest.running = false
      ∧ ({ State.reset with selfTest := { SelfTest.reset with running := true, phase := .memory } } : State).selfTest.running
          = true := by
  decide +kernel

theorem test_PinResetTableAndBoards_hypotheses :
    (∃ u, exec .resetNReleased State.held = .next u) ∧ (8191 : BitVec 16).toNat < 8192 := ⟨exec_next _ _, by decide⟩

theorem test_ClockAndPastTest_hypotheses :
    State.reset.resetHeld = false ∧ State.reset.prescale ≤ 3 ∧ State.reset.SweepWf
      ∧ ({ State.reset with sweepRunning := false } : State).sweepRunning = false
      ∧ (between State.reset).pass = .awaiting 9 ∧ (between State.reset).clock ≠ 9
      ∧ ({ State.reset with pass := .running 1 } : State).clock ≠ 1 + BitVec.ofNat 32 (0 / (64 * 2 ^ 3))
      ∧ (∀ b, (State.reset.board b).graceEnd = none ∧ (State.reset.board b).lostExpiry = none
        ∧ (State.reset.board b).stallExpiry = none) := by
  unfold State.SweepWf
  decide +kernel

theorem test_PassStarts_hypotheses :
    State.reset.resetHeld = false ∧ State.reset.sweepRunning = true ∧ State.reset.pass = .awaiting State.reset.clock
      ∧ ({ State.reset with sweepRunning := false } : State).sweepRunning = false
      ∧ ({ State.reset with pass := .running 0 } : State).pass ≠ .awaiting 0
      ∧ ({ State.reset with pass := .awaiting 1 } : State).pass ≠ .awaiting 0 := by
  decide

theorem test_VisitRateSettled_hypotheses :
    passPeriod 3 ≤ 32 / 2 ∧ 31 / 2 < passPeriod 3 ∧ 4 ≤ 8 / 2 ∧ 7 / 2 < 4 ∧ (5 : Nat) ≤ 5
      ∧ State.reset.groups.leastFloor = some 200
      ∧ ({ State.reset.groups with profiles := State.reset.groups.profiles.map fun p => { p with valid := false } } :
          Groups).leastFloor = none := by
  decide +kernel

/-- A pass that began when the clock reached 300, in its first TU. -/
def sweeping (s : State) : State := { s with pass := .running 300, clock := 300 }

/-- The same pass in its last TU, at slot 8191. -/
def ending (s : State) : State := { s with pass := .running 300, clock := 315, sweepPosition := 8191 }

theorem test_VisitsOfRecords_hypotheses :
    let s := sweeping (oneRecord .live .lodged clean0)
    s.resetHeld = false ∧ s.sweepRunning = true ∧ s.pass = .running 300 ∧ s.sweepPosition ≤ 8191
      ∧ s.clock = 300 + BitVec.ofNat 32 (s.sweepPosition / (64 * 2 ^ s.effectiveVpt))
      ∧ s.slot s.sweepPosition = some (.record .lodged 3 payload0 clean0) ∧ readsClean payload0 clean0 = true
      ∧ s.lookupKey payload0.key = some s.sweepPosition ∧ InService (s.board 3).state ∧ payload0.overdue = none
      ∧ past s.clock payload0.deadline = true := by
  unfold InService
  decide +kernel

theorem test_VisitsOfRecords_other_slots :
    (sweeping { State.reset with slots := [(0, .unattributed)] }).slot 0 = some .unattributed
      ∧ (sweeping State.reset).slot 0 = none ∧ (sweeping State.reset).selfTest.phase ≠ .memory
      ∧ readsClean payload0 (!clean0) = false
      ∧ (sweeping { oneRecord .live .lodged clean0 with index := [] }).lookupKey payload0.key ≠ some 0
      ∧ ((sweeping (oneRecord .silent .lodged clean0)).board 3).state = .silent
      ∧ past (299 : Time) payload0.deadline = false := by
  decide +kernel

theorem test_VisitsOfRecords_last_slot :
    let s := ending { State.reset with slots := [(8191, .damaged 3 payload0 clean0)] }
    s.sweepPosition ≤ 8191 ∧ s.clock = 300 + BitVec.ofNat 32 (s.sweepPosition / (64 * 2 ^ s.effectiveVpt))
      ∧ s.slot s.sweepPosition = some (.damaged 3 payload0 clean0)
      ∧ ({ s with clock := 316 } : State).clock ≠ 300 + BitVec.ofNat 32 (s.sweepPosition / (64 * 2 ^ s.effectiveVpt)) := by
  decide +kernel

theorem test_MemoryPhaseVisits_hypotheses :
    let phase := fun p : TestPhase => { SelfTest.reset with running := decide (p ≠ .none), phase := p }
    let s := ending { State.reset with selfTest := phase .memory }
    s.resetHeld = false ∧ s.sweepRunning = true ∧ s.pass = .running 300
      ∧ s.clock = 300 + BitVec.ofNat 32 (s.sweepPosition / (64 * 2 ^ s.effectiveVpt)) ∧ s.slot s.sweepPosition = none
      ∧ s.sweepPosition = 8191 ∧ s.selfTest.phase = .memory ∧ s.halted = false
      ∧ (sweeping State.reset).sweepPosition < 8191 ∧ (ending State.reset).selfTest.phase ≠ .memory := by
  decide +kernel

theorem test_MemoryPhaseVisits_inner_slot :
    let s := sweeping { State.reset with selfTest := { SelfTest.reset with running := true, phase := .memory } }
    s.resetHeld = false ∧ s.sweepRunning = true ∧ s.pass = .running 300
      ∧ s.clock = 300 + BitVec.ofNat 32 (s.sweepPosition / (64 * 2 ^ s.effectiveVpt)) ∧ s.slot s.sweepPosition = none
      ∧ s.sweepPosition < 8191 ∧ s.selfTest.phase = .memory := by
  decide +kernel

theorem test_GraceExpires_hypotheses :
    let s := (boardIn .warming).modifyBoard 3 fun x => { x with graceEnd := some 0 }
    s.resetHeld = false ∧ (s.board 3).state = .warming ∧ (s.board 3).graceEnd = some 0 ∧ past s.clock 0 = true := by
  decide +kernel

theorem test_PulseCounted_hypotheses :
    let s := (boardIn .live).modifyLine 3 fun _ => ⟨some 0, true⟩
    ((boardIn .warming).board 3).state = .warming ∧ Chargeable ((boardIn .live).board 3).state
      ∧ ((boardIn .live).line 3).intervalArmed = false ∧ (s.line 3).intervalArmed = true ∧ (s.line 3).lastPulse = some 0
      ∧ ¬ InService (State.reset.board 3).state := by
  unfold Chargeable InService
  decide +kernel

theorem test_LostAndStallTimersExpire_hypotheses :
    let s := fun st => (boardIn st).modifyBoard 3 fun x => { x with lostExpiry := some 0, stallExpiry := some 0 }
    ((s .live).board 3).lostExpiry = some 0 ∧ past (s .live).clock 0 = true ∧ ((s .warming).board 3).state = .warming
      ∧ Chargeable ((s .live).board 3).state ∧ ((s .live).board 3).stallExpiry = some 0
      ∧ ({ s .live with halted := true } : State).halted = true ∧ (s .live).halted = false
      ∧ ∀ e, (State.reset.board 3).lostExpiry = some e → past State.reset.clock e = false := by
  unfold Chargeable
  refine ⟨by decide +kernel, by decide +kernel, by decide +kernel, by decide +kernel, by decide +kernel,
    by decide +kernel, by decide +kernel, fun e h => ?_⟩
  exact absurd h (by simp [State.board, State.reset, State.held, Board.reset])

/-! ## The invariants hold in a state other than reset, and it takes a step -/

/-- A state with a LODGED record of a LIVE board, its timers armed and its counts kept, and a TU step waiting. -/
def busy : State :=
  { (oneRecord .live .lodged clean0).modifyBoard 3 fun x => { x with stallExpiry := some 5000, lostExpiry := some 1500 } with
    active := 1 }

theorem test_busy_steps : ∃ t, step busy = .next t := exec_next .tuStep _

theorem test_ScoresAndEstimatesKept_hypotheses : busy.ScoreWf ∧ busy.EstimateWf := by
  unfold State.ScoreWf State.EstimateWf ThresholdsLegal Board.ScoreWf
  decide +kernel

theorem test_VerdictUnitKept_hypotheses : ThresholdsLegal busy.effThresholds ∧ busy.VerdictWf := by
  unfold ThresholdsLegal State.VerdictWf
  decide +kernel

theorem test_TimersKept_hypotheses : busy.TimersWf ∧ busy.SweepWf ∧ busy.OnTimeWf := by
  unfold State.TimersWf Board.TimersWf State.SweepWf State.OnTimeWf
  decide +kernel

theorem test_TableKept_hypotheses :
    (oneRecord .live .lodged clean0).TableWf ∧ (oneRecord .live .lodged clean0).SweepWf
      ∧ ∃ t, step (oneRecord .live .lodged clean0) = .next t :=
  ⟨oneRecord_tableWf _ _ _ ⟨by decide, by decide⟩, by unfold State.SweepWf; decide +kernel, exec_next .tuStep _⟩

theorem test_SoundTableNeverHalts_hypotheses :
    (oneRecord .live .lodged clean0).CleanWf ∧ (oneRecord .live .lodged clean0).halted = false :=
  ⟨oneRecord_cleanWf _ _, rfl⟩

theorem test_LinkPinsAndSelfTestKept_hypotheses : busy.LinkWf ∧ busy.PinsWf ∧ busy.TestWf := by
  refine ⟨⟨trivial, ?_, ?_, ?_⟩, ?_, ?_⟩
  · intro f hf
    have : busy.buffer = [] := rfl
    simp [this] at hf
  · decide
  · decide
  · unfold State.PinsWf; decide +kernel
  · unfold State.TestWf; decide +kernel

end Sys2Proof.Tests
end

