-- ==== Sys2Proof/Proofs/PinReset.lean ====
section
/-! SUPPORT. What the part holds after a pin reset and after RESET_N is released, what PEEK of a FREE slot answers, and the
statement that puts them together. -/

namespace Sys2Proof.Machine

/-! ## The RESET_N commands -/

@[simp] theorem exec_pinReset (s : State) : exec .pinReset s = .next s.pinReset := rfl

@[simp] theorem exec_resetNReleased (s : State) : exec .resetNReleased s = .next s.releaseReset := rfl

/-- Whatever the level of RESET_N was, it is high after its release (R161). -/
@[simp] theorem State.releaseReset_resetHeld (s : State) : s.releaseReset.resetHeld = false := by
  cases h : s.resetHeld <;> simp [releaseReset, h]

/-- The release of RESET_N leaves the record slots as they were. -/
@[simp] theorem State.releaseReset_slot (s : State) (n : Nat) : s.releaseReset.slot n = s.slot n := by
  cases h : s.resetHeld <;> simp [releaseReset, h, State.slot]

/-! ## The reads after a pin reset -/

@[simp] theorem State.pinReset_slot (s : State) (n : Nat) : s.pinReset.slot n = none := rfl

/-- The free list after a pin reset holds all 8192 slots, ascending (R20). -/
theorem State.pinReset_free (s : State) : s.pinReset.free = List.range 8192 :=
  (slotsFrom_eq 0 8192).trans List.range_eq_range'.symm

@[simp] theorem State.pinReset_list (s : State) (b : Bd) : s.pinReset.list b = [] :=
  Vector.getElem_replicate b.isLt

@[simp] theorem State.pinReset_board (s : State) (b : Bd) : s.pinReset.board b = Board.reset :=
  Vector.getElem_replicate b.isLt

@[simp] theorem State.pinReset_line (s : State) (b : Bd) : s.pinReset.line b = Line.reset :=
  Vector.getElem_replicate b.isLt

/-! ## PEEK of a FREE slot -/

/-- The record report of a FREE slot: no board, the slot number, and zeros (R166). -/
theorem State.recordReport_of_free (s : State) (n : Nat) (h : s.slot n = none) :
    s.recordReport n = 255 :: be 2 n ++ List.replicate 28 0 := by
  simp [recordReport, h, linkOf, optBoardByte, recordEntry]

/-- PEEK of a FREE slot finds no damage: it answers the slot's report and does nothing else (R42). -/
theorem servePeek_of_free (tag : Byte) (w : BitVec 16) (s : State) (hw : w.toNat < 8192) (hs : s.slot w.toNat = none) :
    servePeek tag w s = s.answer 0x05 tag .slot (255 :: be 2 w.toNat ++ List.replicate 28 0) := by
  have hread : s.peekRead w.toNat = s := by simp [State.peekRead, hs]
  rw [servePeek, if_neg (Nat.not_le.2 hw), hread, s.recordReport_of_free _ hs]

theorem exec_peek_of_free (s : State) (tag : Byte) (w : BitVec 16) (hr : s.resetHeld = false) (hw : w.toNat < 8192)
    (hs : s.slot w.toNat = none) :
    exec (.peek tag w) s
      = .next (answered (.peek tag w) s 0x05 tag .slot (255 :: be 2 w.toNat ++ List.replicate 28 0)) := by
  have hfree : (s.takeOff (.peek tag w)).slot w.toNat = none := by simp [hs]
  calc exec (.peek tag w) s
      = takeRequest (.peek tag w) (servePeek tag w) s := exec_request (.peek tag w) s rfl
    _ = .next (servePeek tag w (s.takeOff (.peek tag w))).driveLines := takeRequest_next _ _ s hr
    _ = _ := by rw [servePeek_of_free tag w _ hw hfree, answered]

/-- After a pin reset and the release of RESET_N, PEEK of any slot reports FREE: no payload from before the reset is
readable (R20). -/
theorem exec_peek_after_pinReset (s u : State) (tag : Byte) (w : BitVec 16) (hu : exec .resetNReleased s.pinReset = .next u)
    (hw : w.toNat < 8192) :
    exec (.peek tag w) u
      = .next (answered (.peek tag w) u 0x05 tag .slot (255 :: be 2 w.toNat ++ List.replicate 28 0)) := by
  obtain rfl : s.pinReset.releaseReset = u := by simpa using hu
  exact exec_peek_of_free _ tag w (by simp) hw (by simp)

/-- Settles O44: both halves read off the state a pin reset leaves, the Custody Table's with PEEK once RESET_N is high. -/
theorem pinResetTableAndBoards : Obligations.PinResetTableAndBoards := by
  refine ⟨fun s => ⟨s.pinReset, exec_pinReset s, ?_⟩, fun s => ⟨s.pinReset, exec_pinReset s, ?_⟩⟩
  · exact ⟨s.pinReset_slot, s.pinReset_free, rfl, s.pinReset_list, rfl, rfl, rfl, rfl,
      fun u tag w => exec_peek_after_pinReset s u tag w⟩
  · exact ⟨fun b => ⟨s.pinReset_board b, s.pinReset_line b⟩, rfl, rfl, rfl, rfl, rfl⟩

end Sys2Proof.Machine
end

/-! SUPPORT. What the checks of LODGE, ADVANCE and RELEASE answer, one lemma per check in the order of R24, R32 and R36; what
a removal does to a SILENT board; and the statements that put them together. -/

namespace Sys2Proof.Machine

/-! ## A request served -/

section Served

variable {i : Instr} {s t : State} {code tag : Byte} {o : OutcomeCode} {payload : List Byte}

/-- Outside pin reset a request is served by its block in the state without its frame, and the lines follow (R162). -/
theorem exec_served (hi : (requestParts i).isSome = true) (hr : s.resetHeld = false) (h : serve i (s.takeOff i) = t) :
    exec i s = .next t.driveLines := by
  rw [exec_request i s hi, takeRequest_next i _ s hr, h]

/-- A request whose serving only forms a response changes nothing else. -/
theorem exec_answered (hi : (requestParts i).isSome = true) (hr : s.resetHeld = false)
    (h : serve i (s.takeOff i) = (s.takeOff i).answer code tag o payload) :
    exec i s = .next (answered i s code tag o payload) :=
  exec_served hi hr h

end Served

/-! ## What a frame's taking leaves as it was -/

/-- A frame's taking leaves the settings as they were. -/
@[simp] theorem takeOff_settings (s : State) (i : Instr) :
    (∀ c, (s.takeOff i).profile c = s.profile c) ∧ (s.takeOff i).quota = s.quota
      ∧ (s.takeOff i).highMark = s.highMark := by
  simp [State.profile, State.quota, State.highMark]

/-- The structure tests of a removal read nothing of the request's frame. -/
@[simp] theorem takeOff_removalSound (s : State) (i : Instr) (b : Bd) (n : Nat) :
    (s.takeOff i).removalSound b n = s.removalSound b n := by
  have hlinked : (s.takeOff i).linkedTo b = s.linkedTo b := by
    funext m
    simp only [State.linkedTo, takeOff_reads]
  simp only [State.removalSound, State.countAgrees, hlinked, takeOff_reads]

theorem isActive_iff (st : BoardState) : st.isActive = true ↔ InService st := by
  cases st <;> simp [BoardState.isActive, InService]

/-! ## LODGE's checks (R24) -/

section Lodge

variable {t : State} {tag board cls : Byte} {key : Key} {router : Option (BitVec 32)} {b : Bd} {c : Fin 4}

theorem serveLodge_halted (hh : t.halted = true) :
    serveLodge tag board key cls router t = t.answer 0x01 tag .halted [] := by
  simp [serveLodge, hh]

theorem serveLodge_board_range (hh : t.halted = false) (hb : 32 ≤ board.toNat) :
    serveLodge tag board key cls router t = t.answer 0x01 tag .outOfRange [0] := by
  simp [serveLodge, hh, (toBd_none board).2 hb, State.outOfRange]

theorem serveLodge_class_range (hh : t.halted = false) (hb : board.toNat < 32) (hc : 4 ≤ cls.toNat) :
    serveLodge tag board key cls router t = t.answer 0x01 tag .outOfRange [2] := by
  have hbd : toBd board = some ⟨board.toNat, hb⟩ := (toBd_some board _).2 rfl
  simp [serveLodge, hh, hbd, Nat.not_lt.2 hc, State.outOfRange]

/-- With its fields in range, a LODGE is left to the checks on board, profile, key, quota and free list. -/
theorem serveLodge_inRange (hh : t.halted = false) (hb : board.toNat = b.val) (hc : cls.toNat = c.val) :
    serveLodge tag board key cls router t = t.lodgeChecked tag b key c router := by
  have hlt : cls.toNat < 4 := hc ▸ c.isLt
  have hcls : (⟨cls.toNat, hlt⟩ : Fin 4) = c := Fin.ext hc
  simp [serveLodge, hh, (toBd_some board b).2 hb, hlt, hcls]

theorem lodgeChecked_boardState (hb : ¬ InService (t.board b).state) :
    t.lodgeChecked tag b key c router
      = t.answer 0x01 tag .boardState ((t.board b).state.byte :: be 2 (t.board b).outstanding) := by
  simp [State.lodgeChecked, isActive_iff, hb, State.refuseBoardState]

theorem lodgeChecked_profileInvalid (hb : InService (t.board b).state) (hp : (t.profile c).valid = false) :
    t.lodgeChecked tag b key c router = t.answer 0x01 tag .profileInvalid [] := by
  simp [State.lodgeChecked, (isActive_iff _).2 hb, hp]

theorem lodgeChecked_duplicate (hb : InService (t.board b).state) (hp : (t.profile c).valid = true)
    (hk : t.lookupKey key ≠ none) : t.lodgeChecked tag b key c router = t.answer 0x01 tag .duplicate [] := by
  simp [State.lodgeChecked, (isActive_iff _).2 hb, hp, Option.isSome_iff_ne_none.2 hk]

theorem lodgeChecked_overQuota (hb : InService (t.board b).state) (hp : (t.profile c).valid = true)
    (hk : t.lookupKey key = none) (hq : t.quota ≤ (t.board b).outstanding) :
    t.lodgeChecked tag b key c router = t.answer 0x01 tag .overQuota [] := by
  simp [State.lodgeChecked, (isActive_iff _).2 hb, hp, hk, hq]

theorem lodgeChecked_full (hb : InService (t.board b).state) (hp : (t.profile c).valid = true)
    (hk : t.lookupKey key = none) (hq : (t.board b).outstanding < t.quota) (hf : t.free = []) :
    t.lodgeChecked tag b key c router = t.answer 0x01 tag .full [] := by
  simp [State.lodgeChecked, (isActive_iff _).2 hb, hp, hk, Nat.not_le.2 hq, hf]

end Lodge

/-- Settles O8: each check fails in the state without the request's frame just as it fails in the state before. -/
theorem lodgeRefused : Obligations.LodgeRefused := by
  intro s tag board cls key router hr i
  refine ⟨fun hh => ?halted, fun hh hb => ?board, fun hh hb hc => ?cls, fun b c hh hb hc => ?checked⟩
  case halted => exact exec_answered rfl hr (serveLodge_halted (by simpa using hh))
  case board => exact exec_answered rfl hr (serveLodge_board_range (by simpa using hh) hb)
  case cls => exact exec_answered rfl hr (serveLodge_class_range (by simpa using hh) hb hc)
  case checked =>
    have serve_eq : serve i (s.takeOff i) = (s.takeOff i).lodgeChecked tag b key c router :=
      serveLodge_inRange (by simpa using hh) hb hc
    have refused {o : OutcomeCode} {payload : List Byte}
        (h : (s.takeOff i).lodgeChecked tag b key c router = (s.takeOff i).answer 0x01 tag o payload) :
        exec i s = .next (answered i s 0x01 tag o payload) := exec_answered rfl hr (serve_eq.trans h)
    refine ⟨fun hst => ?_, fun hst hp => ?_, fun hst hp hk => ?_, fun hst hp hk hq => ?_, fun hst hp hk hq hf => ?_⟩
    · simpa using refused (lodgeChecked_boardState (by simpa using hst))
    · exact refused (lodgeChecked_profileInvalid (by simpa using hst) (by simpa using hp))
    · exact refused (lodgeChecked_duplicate (by simpa using hst) (by simpa using hp) (by simpa using hk))
    · exact refused (lodgeChecked_overQuota (by simpa using hst) (by simpa using hp) (by simpa using hk) (by simpa using hq))
    · exact refused (lodgeChecked_full (by simpa using hst) (by simpa using hp) (by simpa using hk) (by simpa using hq)
        (by simpa using hf))

/-! ## ADVANCE's checks (R32) -/

section Advance

variable {t : State} {tag : Byte} {key : Key} {approval : BitVec 32} {n : Nat} {st : Stage} {b : Bd} {p : Payload}
  {parity : Bool}

theorem serveAdvance_halted (hh : t.halted = true) :
    serveAdvance tag key approval t = t.answer 0x02 tag .halted [] := by
  simp [serveAdvance, hh]

theorem serveAdvance_notFound (hh : t.halted = false) (hk : t.lookupKey key = none) :
    serveAdvance tag key approval t = t.answer 0x02 tag .notFound [] := by
  simp [serveAdvance, hh, hk]

theorem serveAdvance_held (hh : t.halted = false) (hk : t.lookupKey key = some n)
    (hs : t.slot n = some (.record st b p parity)) (hb : (t.board b).state = .silent) :
    serveAdvance tag key approval t = t.answer 0x02 tag .held (be 2 n) := by
  simp [serveAdvance, hh, hk, hs, hb]

theorem serveAdvance_wrongStage (hh : t.halted = false) (hk : t.lookupKey key = some n)
    (hs : t.slot n = some (.record .decided b p parity)) (hb : (t.board b).state ≠ .silent) :
    serveAdvance tag key approval t = t.answer 0x02 tag .wrongStage (be 2 n) := by
  simp [serveAdvance, hh, hk, hs, hb]

theorem serveAdvance_damaged (hh : t.halted = false) (hk : t.lookupKey key = some n)
    (hs : t.slot n = some (.record .lodged b p parity)) (hb : (t.board b).state ≠ .silent)
    (hp : readsClean p parity = false) :
    serveAdvance tag key approval t = (t.damageRecord n b p parity).answer 0x02 tag .notFound [] := by
  simp [serveAdvance, hh, hk, hs, hb, hp]

end Advance

/-! ## RELEASE's checks (R36) -/

section Release

variable {t : State} {tag outcome : Byte} {key : Key} {n : Nat} {st : Stage} {b : Bd} {p : Payload} {parity : Bool}

theorem serveRelease_halted (hh : t.halted = true) :
    serveRelease tag key outcome t = t.answer 0x03 tag .halted [] := by
  simp [serveRelease, hh]

theorem serveRelease_outcome_range (hh : t.halted = false) (ho : 4 ≤ outcome.toNat) :
    serveRelease tag key outcome t = t.answer 0x03 tag .outOfRange [1] := by
  have ho' : 3 < outcome.toNat := ho
  simp [serveRelease, hh, ho', State.outOfRange]

theorem serveRelease_notFound (hh : t.halted = false) (ho : outcome.toNat ≤ 3) (hk : t.lookupKey key = none) :
    serveRelease tag key outcome t = t.answer 0x03 tag .notFound [] := by
  simp [serveRelease, hh, Nat.not_lt.2 ho, hk]

theorem serveRelease_damaged (hh : t.halted = false) (ho : outcome.toNat ≤ 3) (hk : t.lookupKey key = some n)
    (hs : t.slot n = some (.record st b p parity)) (hp : readsClean p parity = false) :
    serveRelease tag key outcome t = (t.damageRecord n b p parity).answer 0x03 tag .notFound [] := by
  simp [serveRelease, hh, Nat.not_lt.2 ho, hk, hs, hp]

/-- A RELEASE that passes its checks, of a record of a SILENT board, is the release of a held record (R37). -/
theorem serveRelease_held (hh : t.halted = false) (ho : outcome.toNat ≤ 3) (hk : t.lookupKey key = some n)
    (hs : t.slot n = some (.record st b p parity)) (hp : readsClean p parity = true) (hkey : p.key = key)
    (hsound : t.removalSound b n = true) (hb : (t.board b).state = .silent) :
    serveRelease tag key outcome t = t.releaseHeld tag n b p := by
  simp [serveRelease, hh, Nat.not_lt.2 ho, hk, hs, hp, hkey, hsound, hb]

end Release

/-- Settles O12: each check fails in the state without the request's frame just as it fails in the state before. -/
theorem advanceAndReleaseRefused : Obligations.AdvanceAndReleaseRefused := by
  constructor
  · intro s tag key approval hr i
    refine ⟨fun hh => ?halted, fun hh hk => ?notFound, fun n st b p parity hh hk hs => ?record⟩
    case halted => exact exec_answered rfl hr (serveAdvance_halted (by simpa using hh))
    case notFound => exact exec_answered rfl hr (serveAdvance_notFound (by simpa using hh) (by simpa using hk))
    case record =>
      have hh' : (s.takeOff i).halted = false := by simpa using hh
      have hk' : (s.takeOff i).lookupKey key = some n := by simpa using hk
      have hs' : (s.takeOff i).slot n = some (.record st b p parity) := by simpa using hs
      refine ⟨fun hb => ?held, fun hb hst => ?wrongStage, fun hb hst hp => ?damaged⟩
      case held => exact exec_answered rfl hr (serveAdvance_held hh' hk' hs' (by simpa using hb))
      case wrongStage =>
        subst hst
        exact exec_answered rfl hr (serveAdvance_wrongStage hh' hk' hs' (by simpa using hb))
      case damaged =>
        subst hst
        exact exec_served rfl hr (serveAdvance_damaged hh' hk' hs' (by simpa using hb) hp)
  · intro s tag key outcome hr i
    refine ⟨fun hh => ?halted, fun hh ho => ?outcome, fun hh ho hk => ?notFound,
      fun n st b p parity hh ho hk hs hp => ?damaged⟩
    case halted => exact exec_answered rfl hr (serveRelease_halted (by simpa using hh))
    case outcome => exact exec_answered rfl hr (serveRelease_outcome_range (by simpa using hh) ho)
    case notFound => exact exec_answered rfl hr (serveRelease_notFound (by simpa using hh) ho (by simpa using hk))
    case damaged =>
      exact exec_served rfl hr
        (serveRelease_damaged (by simpa using hh) ho (by simpa using hk) (by simpa using hs) hp)

/-! ## The events offered to the Watch Units -/

/-- An offered event changes the latches alone (R138, R139). -/
theorem offer_eq (s : State) (e : WatchEvent) (n : Nat) (b : Bd) (k : Key) (w : BitVec 4) :
    s.offer e n b k w = { s with latches := (s.offer e n b k w).latches } := by
  unfold State.offer
  generalize allUnits = us
  induction us generalizing s with
  | nil => rfl
  | cons u us ih =>
    rw [List.foldl_cons]
    split
    · exact ih (s.latchWatch u e n b k)
    · exact ih s

/-- What an offered event latches depends on the watch units, the clock and the latches alone (R138, R139). -/
theorem offer_latches_congr {s t : State} (hu : t.units = s.units) (hc : t.clock = s.clock) (hl : t.latches = s.latches)
    (e : WatchEvent) (n : Nat) (b : Bd) (k : Key) (w : BitVec 4) :
    (t.offer e n b k w).latches = (s.offer e n b k w).latches := by
  unfold State.offer
  generalize allUnits = us
  induction us generalizing s t with
  | nil => exact hl
  | cons u us ih =>
    have hunit : t.unit = s.unit := by funext v; simp only [State.unit, hu]
    have hlatches : t.unitLatches e u = s.unitLatches e u := by
      simp only [State.unitLatches, State.paired, hunit]
    rw [List.foldl_cons, List.foldl_cons, hlatches]
    split
    · exact ih hu hc (by simp [State.latchWatch, State.modifyLatches, hl, hc])
    · exact ih hu hc hl

/-! ## A record of a SILENT board retired (R11, R14, R123) -/

/-- Two changes of one board's record are one. -/
theorem modifyBoard_modifyBoard (s : State) (b : Bd) (f g : Board → Board) :
    (s.modifyBoard b f).modifyBoard b g = s.modifyBoard b fun x => g (f x) := by
  simp [State.modifyBoard, State.board]

/-- A change of a board's record is known by what it makes of that record. -/
theorem modifyBoard_congr {s : State} {b : Bd} {f g : Board → Board} (h : f (s.board b) = g (s.board b)) :
    s.modifyBoard b f = s.modifyBoard b g := by
  simp only [State.modifyBoard, h]

/-- A removal from a SILENT board's list drains the board when the list is left empty, and changes the list and the board's
record alone. -/
theorem leaveList_of_silent (s : State) (b : Bd) (n : Nat) (d : Bool) (h : (s.board b).state = .silent) :
    s.leaveList b n d =
      (s.setList b ((s.list b).erase n)).modifyBoard b fun x =>
        let o := if (s.list b).erase n = [] then 0 else x.outstanding - 1
        { x with
          outstanding := o, damaged := x.damaged - d.toNat, stallExpiry := if o = 0 then none else x.stallExpiry
          state := if (s.list b).erase n = [] then .drained else .silent } := by
  by_cases he : (s.list b).erase n = []
  · let t := (s.setList b []).modifyBoard b fun x =>
      { x with outstanding := 0, damaged := x.damaged - d.toNat, stallExpiry := none }
    have ht : (t.board b).state = .silent := by simp [t, h]
    calc s.leaveList b n d
        = t.setBoardState b .drained := by simp [State.leaveList, he, h, t]
      _ = t.modifyBoard b fun x => { x with state := .drained } := setBoardState_drained t b ht
      _ = _ := by simp [t, modifyBoard_modifyBoard, he]
  · rw [leaveList_eq s b n d (.inl he)]
    exact modifyBoard_congr (by simp [he, h])

/-- A record of a SILENT board retired whole: slot, index entry, list place and occupancy, with the board's counts, its stall
timer and its drain. -/
theorem retire_of_silent (s : State) (n : Nat) (st : Stage) (b : Bd) (p : Payload) (parity : Bool)
    (hs : s.slot n = some (.record st b p parity)) (hb : (s.board b).state = .silent) :
    let left := (s.list b).erase n
    let o := if left = [] then 0 else (s.board b).outstanding - 1
    s.retire n =
      { s with
        slots := mapRemove n s.slots
        index := s.index.filter fun e => e.2 != n
        lists := s.lists.set b.val left b.isLt
        free := s.free ++ [n]
        occupancy := s.occupancy - 1
        tableHighArmed := if s.occupancy - 1 + 256 < s.highMark then true else s.tableHighArmed
        boards := s.boards.set b.val
          { s.board b with
            outstanding := o
            stallExpiry := if o = 0 then none else (s.board b).stallExpiry
            state := if left = [] then .drained else .silent } b.isLt } := by
  intro left o
  have harmed : (s.tableHighArmed || decide (s.occupancy - 1 + 256 < s.highMark))
      = if s.occupancy - 1 + 256 < s.highMark then true else s.tableHighArmed := by
    split <;> simp [*]
  rw [retire_record_eq s n st b p parity hs, leaveList_of_silent _ b n false (by simpa using hb), freeSlot_eq, ← harmed]
  rfl

/-- Settles O14: the request's checks pass as they would before its frame was taken, and the frame's taking touches nothing
that the release of the held record reads. -/
theorem releaseOfHeldRecord : Obligations.ReleaseOfHeldRecord := by
  intro s tag key outcome n st b p parity hr hh ho hk hs hb hp hkey hsound i x left o u
  have hserve : serve i (s.takeOff i) = (s.takeOff i).releaseHeld tag n b p :=
    serveRelease_held (by simpa using hh) ho (by simpa using hk) (by simpa using hs) hp hkey (by simpa using hsound)
      (by simpa using hb)
  have hlatches : ((s.takeOff i).offer .release n b p.key p.watchSet).latches
      = (s.offer .release n b key p.watchSet).latches := by
    rw [hkey]
    exact offer_latches_congr (by simp) (by simp) (by simp) _ _ _ _ _
  have hheld : (s.takeOff i).releaseHeld tag n b p = u.answer 0x03 tag .releasedHeld (be 2 n) := by
    rw [State.releaseHeld, retire_of_silent _ n st b p parity (by simpa using hs) (by simpa using hb), offer_eq,
      hlatches]
    simp only [takeOff_rest, u, left, o, x]
    rfl
  exact exec_served rfl hr (hserve.trans hheld)

end Sys2Proof.Machine

/-! SUPPORT. The latency estimate, and the statement about it: a sample moves a board's estimate by the floored 2^g-th part of
its distance to the sample (R67); on either side that step lies between 0 and the distance, so the estimate never passes the
sample (R68). -/

namespace Sys2Proof.Machine

/-! ## The floored step (R68) -/

/-- From below, the floored step rises no further than the distance. -/
theorem ediv_two_pow_of_nonneg {d : Int} (hd : 0 ≤ d) (g : Nat) : 0 ≤ d / 2 ^ g ∧ d / 2 ^ g ≤ d :=
  ⟨Int.ediv_nonneg hd (by positivity), Int.ediv_le_self _ hd⟩

/-- From above, the floored step falls by at least one and no further than the distance. -/
theorem ediv_two_pow_of_neg {d : Int} (hd : d < 0) (g : Nat) : d ≤ d / 2 ^ g ∧ d / 2 ^ g ≤ -1 := by
  have hpos : (0 : Int) < 2 ^ g := by positivity
  have hone : (1 : Int) ≤ 2 ^ g := Int.add_one_le_of_lt hpos
  have hneg : d / 2 ^ g < 0 := Int.ediv_neg_of_neg_of_pos hd hpos
  exact ⟨(Int.le_ediv_iff_mul_le hpos).2 (mul_le_of_one_le_right hd.le hone), by omega⟩

/-! ## The updated estimate (R67, R68) -/

section Estimate

variable {latency sample : Nat}

/-- The step never takes the estimate below 0, so the update is the sum that R67 writes. -/
theorem cast_updatedLatency (latency sample g : Nat) :
    (updatedLatency latency sample g : Int) = latency + (16 * sample - latency) / 2 ^ g := by
  refine Int.toNat_of_nonneg ?_
  rcases le_or_gt 0 (16 * (sample : Int) - latency) with hd | hd
  · have := ediv_two_pow_of_nonneg hd g
    omega
  · have := ediv_two_pow_of_neg hd g
    omega

/-- A sample at or above the estimate raises it no further than the sample. -/
theorem updatedLatency_of_le (h : latency ≤ 16 * sample) (g : Nat) :
    latency ≤ updatedLatency latency sample g ∧ updatedLatency latency sample g ≤ 16 * sample := by
  have hstep := ediv_two_pow_of_nonneg (d := 16 * (sample : Int) - latency) (by omega) g
  have hu := cast_updatedLatency latency sample g
  omega

/-- A sample below the estimate lowers it, and no further than the sample. -/
theorem updatedLatency_of_lt (h : 16 * sample < latency) (g : Nat) :
    16 * sample ≤ updatedLatency latency sample g ∧ updatedLatency latency sample g < latency := by
  have hstep := ediv_two_pow_of_neg (d := 16 * (sample : Int) - latency) (by omega) g
  have hu := cast_updatedLatency latency sample g
  omega

/-- The range 0..1,048,560 of the estimate is kept by a sample within the cap. -/
theorem updatedLatency_le_cap (hl : latency ≤ 1048560) (hs : sample ≤ 65535) (g : Nat) :
    updatedLatency latency sample g ≤ 1048560 := by
  rcases le_or_gt latency (16 * sample) with h | h
  · have := updatedLatency_of_le h g
    omega
  · have := updatedLatency_of_lt h g
    omega

end Estimate

/-- Settles O10: the update's own sum, its bounds on either side of the sample, and the range that follows from them. -/
theorem latencyEstimateMoves : Obligations.LatencyEstimateMoves := by
  intro latency sample g hl hs _ _
  refine ⟨?_, fun h => updatedLatency_of_le h g, fun h => updatedLatency_of_lt h g, updatedLatency_le_cap hl hs g⟩
  rw [Int.fdiv_eq_ediv_of_nonneg _ (by positivity), cast_updatedLatency]

end Sys2Proof.Machine

/-! SUPPORT. The verdict request's conditions in the order of R119, and the statement about them. -/

namespace Sys2Proof.Machine

/-! ## The first condition of R119 that fails -/

section Conditions

variable {s : State}

theorem withholdCause_of_common (hc : s.commonCause = true) : s.withholdCause = some .common := by
  simp [State.withholdCause, hc]

theorem withholdCause_of_invalid (hc : s.commonCause = false) (hv : s.allValid = false) :
    s.withholdCause = some .param := by
  simp [State.withholdCause, hc, hv]

theorem withholdCause_of_downLimit (hc : s.commonCause = false) (hv : s.allValid = true) (hd : s.maxDown ≤ s.down) :
    s.withholdCause = some .limit := by
  simp [State.withholdCause, hc, hv, hd]

theorem withholdCause_of_met (hc : s.commonCause = false) (hv : s.allValid = true) (hd : s.down < s.maxDown) :
    s.withholdCause = none := by
  simp [State.withholdCause, hc, hv, Nat.not_le.2 hd]

end Conditions

/-! ## The request answered -/

theorem verdictRequest_of_failing {s : State} {c : Cause} (h : s.withholdCause = some c) (b : Bd) :
    s.verdictRequest b = s.withhold b c := by
  simp [State.verdictRequest, h]

theorem verdictRequest_of_met {s : State} (h : s.withholdCause = none) (b : Bd) :
    s.verdictRequest b = s.grantVerdict b .automatic := by
  simp [State.verdictRequest, h]

/-- Settles O29: the four clauses are the four outcomes of the conditions, tested in R119's order; what is written for a
withheld board is its withholding. -/
theorem verdictRequestAnswered : Obligations.VerdictRequestAnswered := by
  intro s b withheldFor
  refine ⟨fun hc => ?common, fun hc hv => ?param, fun hc hv hd => ?limit, fun hc hv hd => ?granted⟩
  case common => exact verdictRequest_of_failing (withholdCause_of_common hc) b
  case param => exact verdictRequest_of_failing (withholdCause_of_invalid hc hv) b
  case limit => exact verdictRequest_of_failing (withholdCause_of_downLimit hc hv hd) b
  case granted => exact verdictRequest_of_met (withholdCause_of_met hc hv hd) b

end Sys2Proof.Machine

/-! SUPPORT. TAKE of a SILENT board: its list as a TAKE relies on it, the table with a batch handed over in one form for one
slot and for many, what a batch latches, and the statement that puts them together. -/

namespace Sys2Proof.Machine

/-! ## Stores read by membership and by number -/

/-- An entry of a canonical map is what the map holds at its number. -/
theorem mapFind_of_mem {α : Type} {k : Nat} {a : α} {m : List (Nat × α)} (hm : mapWf m = true) (h : (k, a) ∈ m) :
    mapFind k m = some a := by
  induction m with
  | nil => simp at h
  | cons e m ih =>
    obtain ⟨hbelow, hrest⟩ := (mapWf_cons e m).1 hm
    rcases List.mem_cons.1 h with rfl | h
    · simp [mapFind]
    · have hlt : e.1 < k := hbelow (k, a) h
      simpa [mapFind, hlt.ne] using ih hrest h

/-- A filter by number: what is found at a number that passes is found still, and nothing is at the others. -/
theorem mapFind_filter_number {α : Type} (p : Nat → Bool) (k : Nat) (m : List (Nat × α)) :
    mapFind k (m.filter fun e => p e.1) = if p k = true then mapFind k m else none := by
  induction m with
  | nil => simp [mapFind]
  | cons e m ih =>
    by_cases hk : e.1 = k
    · subst hk
      by_cases hp : p e.1 = true <;> simp [mapFind, hp, ih]
    · by_cases hp : p e.1 = true <;> simp [mapFind, hp, hk, ih]

/-- What a map holds at k is gone with k, whatever was put there before. -/
theorem mapRemove_mapPut {α : Type} (k : Nat) (a : α) (m : List (Nat × α)) :
    mapRemove k (mapPut k a m) = mapRemove k m := by
  induction m with
  | nil => simp [mapPut, mapRemove]
  | cons e m ih =>
    obtain ⟨j, c⟩ := e
    simp only [mapRemove] at ih
    unfold mapPut
    split_ifs with hlt heq
    · simp [mapRemove]
    · simp [mapRemove, heq]
    · simp [mapRemove, List.filter_cons, ih]

/-! ## What a batch latches (R127) -/

/-- What TAKE latches for slot k of board b, which holds x: the TAKE event of a record that reads clean, DAMAGE for one that
does not, nothing for a record found DAMAGED before. -/
def State.noticeTaken (u : State) (b : Bd) (k : Nat) : Option Slot → State
  | some (.record _ _ p parity) =>
    if readsClean p parity = true then u.offer .take k b p.key p.watchSet else u.latchDamage k (some b)
  | some (.damaged _ _ _) | some .unattributed => u
  | none => u

/-- The latching of a whole batch, each slot holding what slotOf says. -/
def State.noticesTaken (u : State) (b : Bd) (slotOf : Nat → Option Slot) (ns : List Nat) : State :=
  ns.foldl (fun v k => v.noticeTaken b k (slotOf k)) u

/-- Two states latch alike: they agree in the clock, the watch units and the latches. -/
def LatchAlike (u v : State) : Prop := v.units = u.units ∧ v.clock = u.clock ∧ v.latches = u.latches

theorem noticeTaken_eq (u : State) (b : Bd) (k : Nat) (x : Option Slot) :
    u.noticeTaken b k x = { u with latches := (u.noticeTaken b k x).latches } := by
  unfold State.noticeTaken
  split
  · split
    · exact offer_eq u _ _ _ _ _
    · rfl
  all_goals rfl

theorem LatchAlike.noticeTaken {u v : State} (h : LatchAlike u v) (b : Bd) (k : Nat) (x : Option Slot) :
    LatchAlike (u.noticeTaken b k x) (v.noticeTaken b k x) := by
  obtain ⟨hu, hc, hl⟩ := h
  have hlatches : (v.noticeTaken b k x).latches = (u.noticeTaken b k x).latches := by
    unfold State.noticeTaken
    split
    · split
      · exact offer_latches_congr hu hc hl _ _ _ _ _
      · simp [State.latchDamage, State.modifyLatches, hl, hc]
    all_goals exact hl
  rw [noticeTaken_eq u, noticeTaken_eq v]
  exact ⟨hu, hc, hlatches⟩

/-- What a batch latches depends on the clock, the watch units, the latches and the batch's own slots alone. -/
theorem noticesTaken_congr {u v : State} (h : LatchAlike u v) (b : Bd) {f g : Nat → Option Slot} {ns : List Nat}
    (hslots : ∀ k ∈ ns, g k = f k) : LatchAlike (u.noticesTaken b f ns) (v.noticesTaken b g ns) := by
  induction ns generalizing u v with
  | nil => exact h
  | cons n ns ih =>
    have hn := h.noticeTaken b n (f n)
    rw [State.noticesTaken, State.noticesTaken, List.foldl_cons, List.foldl_cons, hslots n List.mem_cons_self]
    exact ih hn fun k hk => hslots k (List.mem_cons_of_mem n hk)

/-! ## The table without a batch -/

/-- Board b's list, and what a TAKE relies on in it: board b is SILENT, the list holds its slots once and agrees with the
counts reported to the Board Table, and the key index names LODGED and DECIDED slots alone (R5, R9, R11). -/
structure State.HeldList (s : State) (b : Bd) (l : List Nat) : Prop where
  list : s.list b = l
  nodup : l.Nodup
  linked : ∀ n ∈ l, s.linkedTo b n = true
  silent : (s.board b).state = .silent
  outstanding : (s.board b).outstanding = l.length
  damaged : (s.board b).damaged = l.countP s.isDamagedSlot
  indexed : ∀ e ∈ s.index, s.holdsRecord e.2 = true

/-- The state with the Custody Table's stores replaced, and of the boards' lists and records board b's alone. -/
def State.withTable (s : State) (b : Bd) (slots : List (Nat × Slot)) (index : List (Nat × Nat)) (free : List Nat)
    (occupancy : Nat) (armed : Bool) (l : List Nat) (x : Board) : State :=
  { s with
    slots := slots, index := index, free := free, occupancy := occupancy, tableHighArmed := armed
    lists := s.lists.set b.val l b.isLt, boards := s.boards.set b.val x b.isLt }

@[simp] theorem withTable_fields (s : State) (b : Bd) (slots : List (Nat × Slot)) (index : List (Nat × Nat))
    (free : List Nat) (occupancy : Nat) (armed : Bool) (l : List Nat) (x : Board) :
    let t := s.withTable b slots index free occupancy armed l x
    t.slots = slots ∧ t.index = index ∧ t.free = free ∧ t.occupancy = occupancy ∧ t.tableHighArmed = armed
      ∧ t.highMark = s.highMark :=
  ⟨rfl, rfl, rfl, rfl, rfl, rfl⟩

theorem withTable_withTable (s : State) (b : Bd) (slots slots' : List (Nat × Slot)) (index index' : List (Nat × Nat))
    (free free' : List Nat) (occupancy occupancy' : Nat) (armed armed' : Bool) (l l' : List Nat) (x x' : Board) :
    (s.withTable b slots' index' free' occupancy' armed' l' x').withTable b slots index free occupancy armed l x
      = s.withTable b slots index free occupancy armed l x := by
  simp [State.withTable]

/-- A SILENT board's record with the list l left to it: drained, and its stall timer disarmed, when l is empty (R108, R123). -/
def Board.leftWith (x : Board) (l : List Nat) (damaged : Nat) : Board :=
  { x with
    state := if l = [] then .drained else .silent
    outstanding := l.length
    damaged := damaged
    stallExpiry := if l = [] then none else x.stallExpiry }

/-- The state with the slots ns of board b handed over and the list rest left to it (R14, R17, R123, R127); what is latched
on the way is left out. -/
def State.handedOver (s : State) (b : Bd) (ns rest : List Nat) : State :=
  s.withTable b (s.slots.filter fun e => decide (e.1 ∉ ns)) (s.index.filter fun e => decide (e.2 ∉ ns)) (s.free ++ ns)
    (s.occupancy - ns.length) (s.tableHighArmed || decide (s.occupancy - ns.length + 256 < s.highMark)) rest
    ((s.board b).leftWith rest (rest.countP s.isDamagedSlot))

theorem handedOver_slot (s : State) (b : Bd) (ns rest : List Nat) (k : Nat) :
    (s.handedOver b ns rest).slot k = if k ∈ ns then none else s.slot k := by
  have h : (s.handedOver b ns rest).slot k = if decide (k ∉ ns) = true then s.slot k else none :=
    mapFind_filter_number (fun j => decide (j ∉ ns)) k s.slots
  by_cases hk : k ∈ ns <;> simpa [hk] using h

theorem handedOver_lookupKey (s : State) (b : Bd) (ns rest : List Nat) (hm : mapWf s.index = true) (key : Key) (k : Nat) :
    (s.handedOver b ns rest).lookupKey key = some k ↔ s.lookupKey key = some k ∧ k ∉ ns := by
  have h : (s.handedOver b ns rest).lookupKey key = (s.lookupKey key).filter fun n => decide (n ∉ ns) :=
    mapFind_filter (fun n => decide (n ∉ ns)) (keyNumber key) s.index hm
  simp [h, Option.filter_eq_some_iff]

theorem handedOver_list (s : State) (b c : Bd) (ns rest : List Nat) :
    (s.handedOver b ns rest).list c = if c = b then rest else s.list c :=
  s.list_setList b c rest

theorem handedOver_board (s : State) (b c : Bd) (ns rest : List Nat) :
    (s.handedOver b ns rest).board c =
      if c = b then (s.board b).leftWith rest (rest.countP s.isDamagedSlot) else s.board c :=
  s.board_modifyBoard b c fun x => x.leftWith rest (rest.countP s.isDamagedSlot)

/-- Which of the remaining slots are DAMAGED does not change with a batch handed over. -/
theorem handedOver_countP (s : State) (b : Bd) (ns rest l : List Nat) (h : ∀ k ∈ l, k ∉ ns) :
    l.countP (s.handedOver b ns rest).isDamagedSlot = l.countP s.isDamagedSlot := by
  refine List.countP_congr fun k hk => ?_
  simp [State.isDamagedSlot, handedOver_slot, h k hk]

/-- The table-high flag falls due with a later batch if it did with an earlier one: occupancy only falls (R17). -/
theorem armed_or_later (armed : Bool) (occupancy m n mark : Nat) :
    ((armed || decide (occupancy - m + 256 < mark)) || decide (occupancy - m - n + 256 < mark))
      = (armed || decide (occupancy - (m + n) + 256 < mark)) := by
  rw [Bool.or_assoc, ← Bool.decide_or]
  congr 2
  exact propext (by omega)

/-- Two batches handed over one after the other are one. -/
theorem handedOver_handedOver (s : State) (b : Bd) (ms ns rest : List Nat) (hns : ns ≠ [])
    (hrest : ∀ k ∈ rest, k ∉ ms) :
    (s.handedOver b ms (ns ++ rest)).handedOver b ns rest = s.handedOver b (ms ++ ns) rest := by
  rw [State.handedOver, handedOver_countP s b ms (ns ++ rest) rest hrest, handedOver_board, if_pos rfl, State.handedOver,
    withTable_withTable, State.handedOver]
  congr 1
  case e_slots => simp [List.filter_filter, Bool.and_comm]
  case e_index => simp [List.filter_filter, Bool.and_comm]
  case e_free => simp
  case e_occupancy => simp [Nat.sub_sub]
  case e_armed => simp only [withTable_fields, armed_or_later, List.length_append]
  case e_x => simp [Board.leftWith, hns]

/-! ## One slot retired -/

/-- A slot linked to b holds a record of b, DAMAGED or not. -/
theorem linkedTo_cases {s : State} {b : Bd} {n : Nat} (h : s.linkedTo b n = true) :
    (∃ st p parity, s.slot n = some (.record st b p parity)) ∨ ∃ p parity, s.slot n = some (.damaged b p parity) := by
  unfold State.linkedTo at h
  split at h
  next st link p parity hs =>
    obtain rfl : link = b := of_decide_eq_true h
    exact .inl ⟨st, p, parity, hs⟩
  next link p parity hs =>
    obtain rfl : link = b := of_decide_eq_true h
    exact .inr ⟨p, parity, hs⟩
  all_goals exact absurd h Bool.false_ne_true

/-- The held list after one slot of it is handed over, when a slot is left. -/
theorem State.HeldList.handedOver {s : State} {b : Bd} {n : Nat} {rest : List Nat} (h : s.HeldList b (n :: rest))
    (hrest : rest ≠ []) : (s.handedOver b [n] rest).HeldList b rest := by
  obtain ⟨hn, hnodup⟩ := List.nodup_cons.1 h.nodup
  have hne : ∀ k ∈ rest, k ≠ n := fun k hk hkn => hn (hkn ▸ hk)
  have hcount := handedOver_countP s b [n] rest rest (by simpa using hne)
  constructor
  case list => simp [handedOver_list]
  case nodup => exact hnodup
  case linked =>
    intro k hk
    have hl := h.linked k (List.mem_cons_of_mem n hk)
    simpa [State.linkedTo, handedOver_slot, hne k hk] using hl
  case silent => simp [handedOver_board, Board.leftWith, hrest]
  case outstanding => simp [handedOver_board, Board.leftWith]
  case damaged => simp [handedOver_board, Board.leftWith, hcount]
  case indexed =>
    intro e he
    obtain ⟨he, hen⟩ : e ∈ s.index ∧ e.2 ≠ n := by simpa [State.handedOver, State.withTable] using he
    simpa [State.holdsRecord, handedOver_slot, hen] using h.indexed e he

/-- Latching changes nothing of a held list. -/
theorem State.HeldList.withLatches {s : State} {b : Bd} {l : List Nat} (h : s.HeldList b l) (ls : Latches) :
    ({ s with latches := ls } : State).HeldList b l :=
  ⟨h.list, h.nodup, h.linked, h.silent, h.outstanding, h.damaged, h.indexed⟩

/-- Among the other slots as many are DAMAGED as before. -/
theorem damageRecord_countP (s : State) (n : Nat) (b : Bd) (p : Payload) (parity : Bool) (l : List Nat) (hn : n ∉ l) :
    l.countP (s.damageRecord n b p parity).isDamagedSlot = l.countP s.isDamagedSlot := by
  refine List.countP_congr fun k hk => ?_
  have hkn : k ≠ n := fun h => hn (h ▸ hk)
  simp [State.isDamagedSlot, damageRecord_slot, hkn]

/-- A record of the list made DAMAGED keeps its place in it (R15). -/
theorem State.HeldList.damageRecord {s : State} {b : Bd} {n : Nat} {rest : List Nat} (h : s.HeldList b (n :: rest))
    {st : Stage} {p : Payload} {parity : Bool} (hs : s.slot n = some (.record st b p parity)) :
    (s.damageRecord n b p parity).HeldList b (n :: rest) := by
  obtain ⟨hn, -⟩ := List.nodup_cons.1 h.nodup
  have hcount := damageRecord_countP s n b p parity rest hn
  have hdamaged : (s.board b).damaged = rest.countP s.isDamagedSlot := by
    simpa [State.isDamagedSlot, hs, Slot.isDamaged] using h.damaged
  constructor
  case list => exact h.list
  case nodup => exact h.nodup
  case linked =>
    intro k hk
    by_cases hkn : k = n
    · simp [State.linkedTo, damageRecord_slot, hkn]
    · simpa [State.linkedTo, damageRecord_slot, hkn] using h.linked k hk
  case silent => simpa [damageRecord_board] using h.silent
  case outstanding => simpa [damageRecord_board] using h.outstanding
  case damaged =>
    simp [damageRecord_board, hcount, hdamaged, State.isDamagedSlot, damageRecord_slot, Slot.isDamaged]
  case indexed =>
    intro e he
    obtain ⟨he, hen⟩ : e ∈ s.index ∧ e.2 ≠ n := by
      simpa [State.damageRecord, State.dropIndexOf, State.latchDamage] using he
    simpa [State.holdsRecord, damageRecord_slot, hen] using h.indexed e he

/-- The head of a held list retires out of the index and the list, DAMAGED or not: a DAMAGED slot has no index entry to
lose (R5, R14). -/
theorem retire_eq_leaveList_of_heldList {s : State} {b : Bd} {n : Nat} {rest : List Nat} (h : s.HeldList b (n :: rest)) :
    s.retire n = ((s.dropIndexOf n).leaveList b n (s.isDamagedSlot n)).freeSlot n := by
  rcases linkedTo_cases (h.linked n List.mem_cons_self) with ⟨st, p, parity, hs⟩ | ⟨p, parity, hs⟩
  · rw [retire_record_eq s n st b p parity hs]
    simp [State.isDamagedSlot, hs, Slot.isDamaged]
  · have hne : ∀ e ∈ s.index, e.2 ≠ n := fun e he hen => by
      simpa [State.holdsRecord, hen, hs] using h.indexed e he
    have hkeep : (s.index.filter fun e => e.2 != n) = s.index := by simpa using hne
    rw [State.dropIndexOf, hkeep, retire_damaged_eq s n b p parity hs]
    simp [State.isDamagedSlot, hs, Slot.isDamaged]

/-- The head of a held list retired is that one slot handed over. -/
theorem retire_of_heldList {s : State} {b : Bd} {n : Nat} {rest : List Nat} (h : s.HeldList b (n :: rest)) :
    s.retire n = s.handedOver b [n] rest := by
  have herase : (s.list b).erase n = rest := by simp [h.list]
  have hboard : (s.board b).damaged - (s.isDamagedSlot n).toNat = rest.countP s.isDamagedSlot := by
    rw [h.damaged, List.countP_cons]
    cases s.isDamagedSlot n <;> simp
  rw [retire_eq_leaveList_of_heldList h, leaveList_of_silent (s.dropIndexOf n) b n _ h.silent, freeSlot_eq]
  simp only [State.dropIndexOf_reads, herase]
  unfold State.handedOver State.withTable
  congr 1
  case e_slots => simp [mapRemove, bne, beq_eq_decide]
  case e_index => simp [State.dropIndexOf, bne, beq_eq_decide]
  case e_boards =>
    have hout : (s.board b).outstanding - 1 = rest.length := by simp [h.outstanding]
    simp only [State.modifyBoard, State.setList_reads, State.dropIndexOf_reads, hout, hboard]
    by_cases hr : rest = [] <;> simp [Board.leftWith, hr]

/-- A record made DAMAGED on its way out goes as any other: what is left of it is what it latches. -/
theorem handedOver_damageRecord (s : State) (b : Bd) (n : Nat) (p : Payload) (parity : Bool) (rest : List Nat) (hn : n ∉ rest) :
    (s.damageRecord n b p parity).handedOver b [n] rest
      = { s.handedOver b [n] rest with latches := (s.latchDamage n (some b)).latches } := by
  rw [State.handedOver, damageRecord_countP s n b p parity rest hn, damageRecord_board]
  unfold State.handedOver State.withTable
  congr 1
  case e_slots =>
    have hput : (s.damageRecord n b p parity).slots = mapPut n (.damaged b p parity) s.slots := rfl
    simpa [hput, mapRemove, bne, beq_eq_decide] using mapRemove_mapPut n (.damaged b p parity) s.slots
  case e_index => simp [State.damageRecord, State.dropIndexOf, State.latchDamage, bne, beq_eq_decide]
  case e_boards => simp [State.damageRecord, State.latchDamage, State.modifyBoard, Board.leftWith]

/-! ## A batch (R127) -/

/-- The state with the slots ns of board b taken and the list rest left to it: handed over, and latched. -/
def State.taken (s : State) (b : Bd) (ns rest : List Nat) : State :=
  { s.handedOver b ns rest with latches := (s.noticesTaken b s.slot ns).latches }

/-- One slot of a TAKE is taken, and its entry is returned. -/
theorem takeOne_of_heldList {s : State} {b : Bd} {n : Nat} {rest : List Nat} (h : s.HeldList b (n :: rest)) :
    s.takeOne b n = (s.taken b [n] rest, s.takenEntry n) := by
  obtain ⟨hn, -⟩ := List.nodup_cons.1 h.nodup
  have htaken : s.taken b [n] rest = { s.handedOver b [n] rest with latches := (s.noticeTaken b n (s.slot n)).latches } := rfl
  rcases linkedTo_cases (h.linked n List.mem_cons_self) with ⟨st, p, parity, hs⟩ | ⟨p, parity, hs⟩ <;> rw [hs] at htaken
  case inl =>
    by_cases hp : readsClean p parity = true
    · have hclean : (s.offer .take n b p.key p.watchSet).retire n = s.taken b [n] rest := by
        rw [htaken, State.noticeTaken, if_pos hp, offer_eq]
        exact retire_of_heldList (h.withLatches _)
      simp [State.takeOne, State.takenEntry, hs, hp, hclean]
    · have hunclean : (s.damageRecord n b p parity).retire n = s.taken b [n] rest := by
        rw [htaken, State.noticeTaken, if_neg hp, retire_of_heldList (h.damageRecord hs),
          handedOver_damageRecord s b n p parity rest hn]
      simp [State.takeOne, State.takenEntry, hs, hp, hunclean, damageRecord_slot]
  case inr =>
    have hbefore : s.retire n = s.taken b [n] rest := (retire_of_heldList h).trans htaken.symm
    simp [State.takeOne, State.takenEntry, hs, hbefore]

/-- The slots after the head of a list hold what they held before it was taken. -/
theorem taken_head_slot (s : State) (b : Bd) {n k : Nat} {l : List Nat} (hn : n ∉ l) (hk : k ∈ l) :
    (s.taken b [n] l).slot k = s.slot k := by
  have hkn : k ∉ [n] := fun h => hn (List.mem_singleton.1 h ▸ hk)
  exact (handedOver_slot s b [n] l k).trans (if_neg hkn)

/-- A slot taken and a batch after it are one batch. -/
theorem taken_taken (s : State) (b : Bd) (n : Nat) (ns rest : List Nat) (hns : ns ≠ []) (hn : n ∉ ns ++ rest) :
    (s.taken b [n] (ns ++ rest)).taken b ns rest = s.taken b (n :: ns) rest := by
  have hrest : ∀ k ∈ rest, k ∉ [n] := fun k hk hkn => hn (List.mem_singleton.1 hkn ▸ List.mem_append_right ns hk)
  have hslot : ∀ k ∈ ns, (s.taken b [n] (ns ++ rest)).slot k = s.slot k := fun k hk =>
    taken_head_slot s b hn (List.mem_append_left rest hk)
  have halike : LatchAlike (s.noticeTaken b n (s.slot n)) (s.taken b [n] (ns ++ rest)) := by
    rw [noticeTaken_eq]
    exact ⟨rfl, rfl, rfl⟩
  have hlatches := (noticesTaken_congr halike b hslot).2.2
  have hboth := handedOver_handedOver s b [n] ns rest hns hrest
  exact congrArg₂ (fun (u : State) ls => { u with latches := ls }) hboth hlatches

/-- A batch from the head of a held list is taken, and each slot's entry is the one it had before the batch. -/
theorem takeBatch_of_heldList {s : State} {b : Bd} {ns rest : List Nat} (h : s.HeldList b (ns ++ rest)) (hns : ns ≠ []) :
    State.takeBatch b ns s = (s.taken b ns rest, ns.flatMap s.takenEntry) := by
  induction ns generalizing s with
  | nil => exact absurd rfl hns
  | cons n ns ih =>
    rw [State.takeBatch, takeOne_of_heldList h]
    by_cases hlast : ns = []
    · subst hlast
      simp [State.takeBatch]
    · have hn : n ∉ ns ++ rest := (List.nodup_cons.1 h.nodup).1
      have hentries : ns.flatMap (s.taken b [n] (ns ++ rest)).takenEntry = ns.flatMap s.takenEntry :=
        List.flatMap_congr fun k hk => by
          have hslot := taken_head_slot s b hn (List.mem_append_left rest hk)
          simp only [State.takenEntry, hslot]
      have hnext : (s.taken b [n] (ns ++ rest)).HeldList b (ns ++ rest) := (h.handedOver (by simp [hlast])).withLatches _
      simp only [List.append_eq, ih hnext hlast, taken_taken s b n ns rest hlast hn, hentries, List.flatMap_cons]

/-- A batch taken changes the table, the board's record and the latches alone. -/
theorem taken_frame (s : State) (b : Bd) (ns rest : List Nat) :
    { s.taken b ns rest with
      slots := s.slots, index := s.index, free := s.free, lists := s.lists, occupancy := s.occupancy
      tableHighArmed := s.tableHighArmed, boards := s.boards, latches := s.latches } = s := rfl

/-! ## TAKE served (R126, R127) -/

/-- In a sound table the list of a SILENT board is a held list. -/
theorem heldList_of_tableWf {s : State} (h : s.TableWf) {b : Bd} (hb : (s.board b).state = .silent) :
    s.HeldList b (s.list b) := by
  obtain ⟨⟨-, hindex, -⟩, ⟨hholds, -⟩, -, hlists⟩ := h
  obtain ⟨hnodup, hlinked, hout, hdam, -, -⟩ := hlists b
  exact ⟨rfl, hnodup, fun n hn => (hlinked n).1 hn, hb, hout, hdam.trans List.countP_eq_length_filter.symm,
    fun e he => (hholds e.2).2 ⟨e.1, mapFind_of_mem hindex he⟩⟩

/-- The structure tests of a TAKE pass on a held list (R152). -/
theorem takeSound_of_heldList {s : State} {b : Bd} {l : List Nat} (h : s.HeldList b l) (m : Nat) :
    s.takeSound b m = true := by
  have hwalk : (l.take m).all (s.linkedTo b) = true :=
    List.all_eq_true.2 fun n hn => h.linked n (List.mem_of_mem_take hn)
  have hcount : s.countAgrees b = true := by simp [State.countAgrees, h.list, h.outstanding]
  rw [State.takeSound, h.list, hwalk, hcount, Bool.or_true, Bool.and_true]

/-- A TAKE that passes its checks takes the first records of the list and answers with their entries (R127, R165). -/
theorem serveTake_of_heldList {s : State} {b : Bd} {l : List Nat} (h : s.HeldList b l) (tag : Byte) {board n : Byte}
    (hh : s.halted = false) (hb : board.toNat = b.val) (h1 : 1 ≤ n.toNat) (h8 : n.toNat ≤ 8) (hl : l ≠ []) :
    let m := min n.toNat (s.board b).outstanding
    let left := l.drop m
    serveTake tag board n s =
      (s.taken b (l.take m) left).answer 0x0B tag .accepted
        ([BitVec.ofNat 8 b.val, BitVec.ofNat 8 m, (if left = [] then BoardState.drained else .silent).byte]
          ++ be 2 left.length ++ optTime (s.board b).verdictTime ++ (l.take m).flatMap s.takenEntry) := by
  intro m left
  have hpos := List.length_pos_iff.2 hl
  have hout := h.outstanding
  have hbatch : l.take m ≠ [] := by
    have hm : m ≠ 0 := by omega
    simp [List.take_eq_nil_iff, hl, hm]
  have hrange : inRange n.toNat 1 8 = true := by simp [inRange, h1, h8]
  have hserve : serveTake tag board n s = s.takeRecords tag b m := by
    simp [serveTake, hh, (toBd_some board b).2 hb, hrange, h.silent, takeSound_of_heldList h, m]
  have hsplit : s.HeldList b (l.take m ++ left) := by simpa [left] using h
  have hboard : (s.taken b (l.take m) left).board b = (s.board b).leftWith left (left.countP s.isDamagedSlot) :=
    (handedOver_board s b b (l.take m) left).trans (if_pos rfl)
  rw [hserve, State.takeRecords, h.list, takeBatch_of_heldList hsplit hbatch]
  simp only [hboard, Board.leftWith]

/-- A frame's taking changes the buffer and READY alone. -/
theorem takeOff_eq (s : State) (i : Instr) :
    s.takeOff i = { s with buffer := (s.takeOff i).buffer, ready := (s.takeOff i).ready } :=
  congrArg (fun t : State => { t with buffer := (s.takeOff i).buffer, ready := (s.takeOff i).ready }) (takeOff_frame s i)

/-- A frame's taking changes nothing of a held list. -/
theorem State.HeldList.takeOff {s : State} {b : Bd} {l : List Nat} (h : s.HeldList b l) (i : Instr) :
    (s.takeOff i).HeldList b l := by
  rw [takeOff_eq]
  exact ⟨h.list, h.nodup, h.linked, h.silent, h.outstanding, h.damaged, h.indexed⟩

/-- A frame's taking changes no entry that a TAKE returns. -/
theorem takeOff_takenEntry (s : State) (i : Instr) : (s.takeOff i).takenEntry = s.takenEntry := by
  rw [takeOff_eq]
  rfl

/-- A batch is taken in the state without the request's frame as it is in the state with it. -/
theorem taken_takeOff (s : State) (i : Instr) (b : Bd) (ns rest : List Nat) :
    (s.takeOff i).taken b ns rest
      = { s.taken b ns rest with buffer := (s.takeOff i).buffer, ready := (s.takeOff i).ready } := by
  have halike : LatchAlike s (s.takeOff i) := by simp [LatchAlike]
  have hslots : ∀ k ∈ ns, (s.takeOff i).slot k = s.slot k := fun k _ => by simp
  have hlatches := (noticesTaken_congr halike b hslots).2.2
  have hover : (s.takeOff i).handedOver b ns rest
      = { s.handedOver b ns rest with buffer := (s.takeOff i).buffer, ready := (s.takeOff i).ready } := by
    rw [takeOff_eq]
    rfl
  rw [State.taken, hover, hlatches, State.taken]

/-- The flag as a TAKE leaves it, in the words of R17. -/
theorem armed_eq_ite (armed : Bool) (p : Prop) [Decidable p] : (armed || decide p) = if p then true else armed := by
  by_cases hp : p <;> simp [hp]

/-- Settles O32: the list of a SILENT board in a sound table is a held list, so that the request takes its first m records;
what the statement says of each part of the state is read off the table with these handed over. -/
theorem takeHandsOver : Obligations.TakeHandsOver := by
  intro s tag board n b hr hh hb h1 h8 hsilent htable i x m batch state
  have hheld := heldList_of_tableWf htable hsilent
  obtain ⟨⟨-, hindex, -⟩, -, -, hlists⟩ := htable
  obtain ⟨-, -, -, -, -, hnonempty⟩ := hlists b
  have hout : x.outstanding = (s.list b).length := hheld.outstanding
  let left := (s.list b).drop m
  have hleft : left = [] ↔ m = x.outstanding := by
    rw [List.drop_eq_nil_iff, hout]
    omega
  have hstate : (if left = [] then BoardState.drained else .silent) = state := by simp only [hleft, state]
  have hlen : left.length = x.outstanding - m := by rw [List.length_drop, hout]
  have hbatch : batch.length = m := by simp [batch, m, hout]
  have hserve : serve i (s.takeOff i) = _ := serveTake_of_heldList (hheld.takeOff i) tag (by simpa using hh) hb h1 h8
    (hnonempty hsilent)
  have hboard : (s.takeOff i).board b = x := by simp [x]
  rw [hboard, taken_takeOff, takeOff_takenEntry, hstate, hlen] at hserve
  refine ⟨_, exec_served rfl hr hserve, ?answers, ?list, ?lists, ?free, ?occupancy, ?armed, ?slots, ?keys,
    ?board, ?boards, ?latches, ?frame⟩
  case answers => exact ⟨rfl, rfl, rfl, rfl, rfl⟩
  case list => exact (handedOver_list s b b batch left).trans (if_pos rfl)
  case lists => exact fun c hc => (handedOver_list s b c batch left).trans (if_neg hc)
  case free => rfl
  case occupancy => exact congrArg (s.occupancy - ·) hbatch
  case armed =>
    rw [← hbatch]
    exact armed_eq_ite _ _
  case slots => exact handedOver_slot s b batch left
  case keys => exact handedOver_lookupKey s b batch left hindex
  case board =>
    have hrecord := (handedOver_board s b b batch left).trans (if_pos rfl)
    rw [Board.leftWith, hstate, hlen, List.countP_eq_length_filter] at hrecord
    simp only [hleft] at hrecord
    exact hrecord
  case boards => exact fun c hc => (handedOver_board s b c batch left).trans (if_neg hc)
  case latches => rfl
  case frame => exact taken_frame s b batch left

end Sys2Proof.Machine

/-! SUPPORT. What a step can do, said once: every command comes down to the operations listed in OpKept, each under the guard
that the command has tested. A property that these operations keep is kept by every request and by every event of the part,
and with the link, the pins and the resets by every step. -/

namespace Sys2Proof.Machine

/-! ## Changes beside the table, the boards and the sweep -/

/-- t differs from s at most in the responses, the latches, the watch units, the effective masks and weights, the two flags
that no other operation reads, and the free values drawn. -/
def Aside (s t : State) : Prop :=
  ∃ tx latches units noticeMask faultMask effWeights tableHighArmed timebasePending freeValues,
    t = { s with
      tx := tx, latches := latches, units := units, noticeMask := noticeMask, faultMask := faultMask
      effWeights := effWeights, tableHighArmed := tableHighArmed, timebasePending := timebasePending
      freeValues := freeValues }

theorem aside_answer (s : State) (code tag : Byte) (o : OutcomeCode) (p : List Byte) : Aside s (s.answer code tag o p) :=
  ⟨_, _, _, _, _, _, _, _, _, rfl⟩

theorem aside_modifyLatches (s : State) (f : Latches → Latches) : Aside s (s.modifyLatches f) :=
  ⟨_, _, _, _, _, _, _, _, _, rfl⟩

theorem aside_offer (s : State) (e : WatchEvent) (n : Nat) (b : Bd) (k : Key) (w : BitVec 4) :
    Aside s (s.offer e n b k w) := by
  rw [offer_eq]
  exact ⟨_, _, _, _, _, _, _, _, _, rfl⟩

/-- t differs from s at most in the queue, the receiver, the input buffer, the pins and the latches. -/
def Outside (s t : State) : Prop :=
  ∃ pending rx buffer ready attnN faultN latches,
    t = { s with
      pending := pending, rx := rx, buffer := buffer, ready := ready, attnN := attnN, faultN := faultN, latches := latches }

theorem outside_driveLines (s : State) : Outside s s.driveLines := ⟨_, _, _, _, _, _, _, rfl⟩

theorem outside_takeOff (s : State) (i : Instr) : Outside s (s.takeOff i) := by
  rw [takeOff_eq]
  exact ⟨_, _, _, _, _, _, _, rfl⟩

theorem outside_popFrame (s : State) : Outside s s.popFrame := ⟨_, _, _, _, _, _, _, rfl⟩

theorem receive_eq (s : State) (bytes : List Byte) :
    ∃ rx buffer latches, s.receive bytes = { s with rx := rx, buffer := buffer, latches := latches } :=
  ⟨(s.receive bytes).rx, (s.receive bytes).buffer, (s.receive bytes).latches,
    congrArg (fun t : State => { t with
      rx := (s.receive bytes).rx, buffer := (s.receive bytes).buffer, latches := (s.receive bytes).latches })
      (receive_frame s bytes)⟩

theorem outside_frameArrival (s : State) (bytes : List Byte) : Outside s (frameArrivalEffect bytes s) := by
  obtain ⟨rx, buffer, latches, hreceive⟩ := receive_eq s bytes
  rw [frameArrivalEffect, hreceive]
  exact ⟨_, _, _, _, _, _, _, rfl⟩

/-! ## What a command comes down to -/

/-- The effect of an event of the part's own clock, sweep and timers, or of a pulse; none for any other command. -/
def clockEffect : Instr → Option (State → State)
  | .tuStep => some tuStepEffect
  | .passStart => some passStartEffect
  | .sweepVisit => some sweepVisitEffect
  | .graceExpiry b => some (graceExpiryEffect b)
  | .pulse b => some (pulseEffect b)
  | .lostExpiry b => some (lostExpiryEffect b)
  | .stallExpiry b => some (stallExpiryEffect b)
  | _ => none

/-- While RESET_N is held nothing but the pin's commands acts (log 8). -/
theorem exec_held {i : Instr} {s : State} (h : s.resetHeld = true) (hpin : i ≠ .pinReset) (hrelease : i ≠ .resetNReleased) :
    exec i s = .next s := by
  cases i
  case pinReset => exact absurd rfl hpin
  case resetNReleased => exact absurd rfl hrelease
  case frameArrival | linkCheck | tuStep | passStart | sweepVisit | graceExpiry | pulse | lostExpiry | stallExpiry =>
    exact takeEvent_held _ s h
  all_goals exact takeRequest_held _ _ s h

theorem exec_clockEffect {i : Instr} {s : State} {effect : State → State} (h : s.resetHeld = false)
    (he : clockEffect i = some effect) : exec i s = .next (effect s).driveLines := by
  cases i
  case tuStep | passStart | sweepVisit | graceExpiry | pulse | lostExpiry | stallExpiry =>
    rw [← Option.some.inj he]
    exact takeEvent_next _ s h
  all_goals exact absurd he nofun

/-- The pin's commands apart, a command does nothing while RESET_N is held, and is otherwise an arrival, a link check, a
request served without its frame, or an event of the part's own clock, after which the lines are driven. -/
theorem exec_cases {i : Instr} {s t : State} (h : exec i s = .next t) :
    (i = .pinReset ∧ t = s.pinReset) ∨ (i = .resetNReleased ∧ t = s.releaseReset) ∨ (s.resetHeld = true ∧ t = s)
      ∨ ∃ u, t = u.driveLines ∧ s.resetHeld = false
        ∧ ((∃ bytes, u = frameArrivalEffect bytes s) ∨ u = linkCheckEffect s ∨ u = serve i (s.takeOff i)
          ∨ ∃ effect, clockEffect i = some effect ∧ u = effect s) := by
  by_cases hpin : i = .pinReset
  · subst hpin
    cases h
    exact .inl ⟨rfl, rfl⟩
  by_cases hrelease : i = .resetNReleased
  · subst hrelease
    cases h
    exact .inr (.inl ⟨rfl, rfl⟩)
  cases hr : s.resetHeld
  case true =>
    rw [exec_held hr hpin hrelease] at h
    cases h
    exact .inr (.inr (.inl ⟨rfl, rfl⟩))
  refine .inr (.inr (.inr ?_))
  cases hrequest : (requestParts i).isSome
  case true =>
    rw [exec_request i s hrequest, takeRequest_next _ _ _ hr] at h
    cases h
    exact ⟨_, rfl, rfl, .inr (.inr (.inl rfl))⟩
  cases hclock : clockEffect i
  case some effect =>
    rw [exec_clockEffect hr hclock] at h
    cases h
    exact ⟨_, rfl, rfl, .inr (.inr (.inr ⟨effect, rfl, rfl⟩))⟩
  cases i
  case frameArrival bytes =>
    rw [show exec (.frameArrival bytes) s = _ from takeEvent_next _ s hr] at h
    cases h
    exact ⟨_, rfl, rfl, .inl ⟨bytes, rfl⟩⟩
  case linkCheck =>
    rw [show exec .linkCheck s = _ from takeEvent_next _ s hr] at h
    cases h
    exact ⟨_, rfl, rfl, .inr (.inl rfl)⟩
  case pinReset => exact absurd rfl hpin
  case resetNReleased => exact absurd rfl hrelease
  case tuStep | passStart | sweepVisit | graceExpiry | pulse | lostExpiry | stallExpiry => exact absurd hclock nofun
  all_goals exact absurd hrequest nofun

/-! ## The operations of the Verdict Unit -/

/-- P is kept by every operation of the Verdict Unit, under what the Verdict Unit has tested. -/
structure VerdictKept (P : State → Prop) : Prop where
  latch : ∀ s f, P s → P (s.modifyLatches f)
  grant : ∀ s b path, s.down < s.maxDown → (s.cause b).isSome = true ∨ (s.board b).state.isActive = true → P s →
    P (s.grantVerdict b path)
  withhold : ∀ s b c, (s.board b).state = .doubtful → P s → P (s.withhold b c)
  record : ∀ s b c, (s.cause b).isSome = true → P s → P (s.setCause b (some c))
  clear : ∀ s b, P s → P (s.clearPending b)
  doubt : ∀ s b, (s.board b).state = .live → s.levelA ≤ (s.board b).score → P s → P (s.setBoardState b .doubtful)
  live : ∀ s b, s.returnsToLive b = true → ((s.board b).pending = true → s.levelV ≤ (s.board b).score) → P s →
    P (s.setBoardState b .live)

/-- A verdict is not withheld only while the down count is below MAX_DOWN (R119). -/
theorem down_lt_maxDown {s : State} (h : s.withholdCause = none) : s.down < s.maxDown := by
  unfold State.withholdCause at h
  split_ifs at h with _ _ hd
  omega

namespace VerdictKept

variable {P : State → Prop} (h : VerdictKept P)
include h

theorem recordCauses (s : State) (c : Cause) (hs : P s) : P (s.recordCauses c) := by
  unfold State.recordCauses
  generalize allBoards = bs
  induction bs generalizing s with
  | nil => exact hs
  | cons b bs ih =>
    rw [List.foldl_cons]
    split
    next hb =>
      obtain ⟨hsome, -⟩ := Bool.and_eq_true _ _ ▸ hb
      exact ih _ (h.latch _ _ (h.record s b c hsome hs))
    next => exact ih s hs

theorem reconsiderRounds (k : Nat) (s : State) (hs : P s) : P (State.reconsiderRounds k s) := by
  induction k generalizing s with
  | zero => exact hs
  | succ k ih =>
    unfold State.reconsiderRounds
    split
    next => exact hs
    next b l hl =>
      have hb : (s.cause b).isSome = true := (mem_grantOrder s b).1 (by simp [hl])
      split
      next hw => exact ih _ (h.grant s b _ (down_lt_maxDown hw) (.inl hb) hs)
      next c _ => exact h.recordCauses s c hs

theorem reconsider (s : State) (hs : P s) : P s.reconsider := h.reconsiderRounds 33 s hs

theorem afterExit (s t : State) (ht : P t) : P (s.afterExit t) := by
  unfold State.afterExit
  split
  · exact h.reconsider t ht
  · exact ht

theorem afterSetgroup (s : State) (hs : P s) : P s.afterSetgroup := by
  unfold State.afterSetgroup
  split
  · exact h.reconsider s hs
  · exact hs

theorem requestIfDue (s : State) (b : Bd) (hs : P s) : P (s.requestIfDue b) := by
  unfold State.requestIfDue State.verdictRequest
  split
  next hdue =>
    obtain ⟨hstate, -, -⟩ := hdue
    split
    next hw => exact h.grant s b _ (down_lt_maxDown hw) (.inr (by simp [hstate, BoardState.isActive])) hs
    next c _ => exact h.withhold s b c hstate hs
  next => exact hs

theorem doubtIfAlerted (s : State) (b : Bd) (i : DoubtItem) (hs : P s) : P (s.doubtIfAlerted b i) := by
  unfold State.doubtIfAlerted
  split
  next hb => exact h.afterExit s _ (h.latch _ _ (h.doubt s b hb.1 hb.2 hs))
  next => exact hs

theorem leavePendingIfBelow (s : State) (b : Bd) (hs : P s) : P (s.leavePendingIfBelow b) := by
  unfold State.leavePendingIfBelow
  split
  · exact h.clear s b hs
  · exact hs

omit h in
/-- Once a board below V has left the pending set, a pending board stands at V or above. -/
theorem pending_of_leavePendingIfBelow (s : State) (b : Bd) :
    ((s.leavePendingIfBelow b).board b).pending = true →
      (s.leavePendingIfBelow b).levelV ≤ ((s.leavePendingIfBelow b).board b).score := by
  unfold State.leavePendingIfBelow
  split
  next => simp [State.clearPending]
  next hn => exact fun hp => Nat.not_lt.1 fun hlt => hn ⟨hp, hlt⟩

theorem settleCredit (s : State) (b : Bd) (hp : (s.board b).pending = true → s.levelV ≤ (s.board b).score) (hs : P s) :
    P (s.settleCredit b) := by
  unfold State.settleCredit
  split
  next hb => exact h.afterExit s _ (h.live s b hb hp hs)
  next => exact hs

theorem reevaluateBoard (s : State) (b : Bd) (hs : P s) : P (s.reevaluateBoard b) := by
  unfold State.reevaluateBoard
  split
  case h_1 => exact h.requestIfDue _ b (h.doubtIfAlerted s b _ hs)
  case h_2 =>
    have hleft := h.leavePendingIfBelow s b hs
    unfold State.reevaluateDoubtful
    split
    next hb => exact h.afterExit _ _ (h.live _ b hb (pending_of_leavePendingIfBelow s b) hleft)
    next => exact h.requestIfDue _ b hleft
  all_goals exact hs

theorem reevaluateBoards (bs : List Bd) (s : State) (hs : P s) : P (bs.foldl State.reevaluateBoard s) := by
  induction bs generalizing s with
  | nil => exact hs
  | cons b bs ih => exact ih _ (h.reevaluateBoard s b hs)

theorem latchIfHeartbeat (s : State) (b : Bd) (k : Evidence) (hs : P s) : P (s.latchIfHeartbeat b k) := by
  unfold State.latchIfHeartbeat State.latchHeartbeat
  cases k
  case lost | racing => exact h.latch s _ hs
  all_goals exact hs

/-- A charge keeps P when its first step does (R97). -/
theorem charge (s : State) (b : Bd) (k : Evidence) (hraise : P (s.raiseScore b k)) (hs : P s) : P (s.charge b k) := by
  unfold State.charge
  split
  case h_1 | h_2 => exact h.latchIfHeartbeat _ b k (h.requestIfDue _ b (h.doubtIfAlerted _ b _ hraise))
  all_goals exact hs

/-- A credit keeps P when its first step does (R98). -/
theorem credit (s : State) (b : Bd) (hpay : P (s.payDown b)) : P (s.credit b) :=
  h.settleCredit _ b (pending_of_leavePendingIfBelow _ b) (h.leavePendingIfBelow _ b hpay)

end VerdictKept

/-! ## The operations of the whole part -/

/-- A check of R152 on the structure fails: an index entry whose slot holds no record of its key, a record whose key the index
does not give, or a custody list that fails the tests of RELEASE, of TAKE or of PURGE. -/
def State.StructureFails (s : State) : Structure → Prop
  | .keyIndex =>
    (∃ k n, s.lookupKey k = some n ∧ ∀ st b p q, s.slot n = some (.record st b p q) → readsClean p q = true → p.key ≠ k)
      ∨ ∃ n st b p q, s.slot n = some (.record st b p q) ∧ readsClean p q = true ∧ s.lookupKey p.key ≠ some n
  | .custodyList b =>
    (∃ n st p q, s.slot n = some (.record st b p q) ∧ s.removalSound b n = false)
      ∨ (∃ m, s.takeSound b m = false) ∨ s.purgeSound b = false

/-- P is kept by every operation that requests and events are made of, under what they have tested. -/
structure OpKept (P : State → Prop) : Prop where
  aside : ∀ s t, Aside s t → P s → P t
  charge : ∀ s b k, P s → P (s.charge b k)
  credit : ∀ s b, P s → P (s.credit b)
  enrol : ∀ s b, (s.board b).state = .absent → P s → P (s.afterExit (s.enterWarming b))
  reinstate : ∀ s b, (s.board b).state = .drained → P s → P (s.enterWarming b).reconsider
  retireActive : ∀ s b, (s.board b).state = .warming ∨ (s.board b).state = .live → (s.board b).outstanding = 0 → P s →
    P (s.afterExit (s.leaveService b))
  retireDrained : ∀ s b, (s.board b).state = .drained → (s.board b).outstanding = 0 → P s → P (s.leaveService b).reconsider
  declare : ∀ s b, (s.board b).state.isActive = true → s.down < s.maxDown → P s →
    P (s.afterExit (s.grantVerdict b .declared))
  absolve : ∀ s b, (s.board b).state = .live ∨ (s.board b).state = .doubtful → P s → P (s.afterExit (s.absolveBoard b))
  baseline : ∀ s b c, P s → P (s.modifyBoard b fun x => { x with baseline := some c })
  damage : ∀ s n st b p q, s.slot n = some (.record st b p q) → readsClean p q = false → P s → P (s.damageRecord n b p q)
  halt : ∀ s w, s.StructureFails w → P s → P (s.enterHalted w)
  create : ∀ s n rest b p, (s.board b).state.isActive = true → s.free = n :: rest → s.lookupKey p.key = none → P s →
    P (s.createRecord n rest b p)
  rewrite : ∀ s n st st' b p q parity, s.slot n = some (.record st b p parity) → q.key = p.key →
    s.lookupKey p.key = some n → P s → P (s.writeRecord n st' b q)
  retire : ∀ s n, P s → P (s.retire n)
  sample : ∀ s b n, n ≤ 65535 → P s → P (s.takeSample b n)
  releases : ∀ s b, P s → P (s.stepReleases b)
  progress : ∀ s b, P s → P (s.progress b)
  group : ∀ s f, (f s.groups).guard.fields = s.groups.guard.fields → P s → P (s.modifyGroups f).afterSetgroup
  thresholds : ∀ s f, checkThresholds f = none → P s → P (writeThresholds f s)
  guard : ∀ s f, checkGuard s.down f = none → P s → P (writeGuard f s)
  clear : ∀ s, P s → P s.custodyReset
  startTest : ∀ s inject, P s → P (s.startTest inject)
  startPass : ∀ s, s.passStartDue = true → P s → P s.startPass
  testFree : ∀ s, s.slot s.sweepPosition = none → s.selfTest.phase = .memory → P s → P (s.testFreeSlot s.sweepPosition)
  moveOn : ∀ s began, s.pass = .running began → s.clock = s.visitTime began → P s → P (State.afterVisit began s)
  grace : ∀ s b, (s.board b).state = .warming → P s → P (s.expireGrace b)
  pulse : ∀ s b, (s.board b).state.isActive = true → P s → P (s.countPulse b)
  lost : ∀ s b, (s.board b).lostExpiry.isSome = true → P s → P (s.rearmLost b)
  stall : ∀ s b, (s.board b).stallExpiry.isSome = true → P s → P (s.rearmStall b)

/-- Two properties kept by every operation are kept together. -/
theorem OpKept.and {P R : State → Prop} (hP : OpKept P) (hR : OpKept R) : OpKept fun s => P s ∧ R s where
  aside s t h hs := ⟨hP.aside s t h hs.1, hR.aside s t h hs.2⟩
  charge s b k hs := ⟨hP.charge s b k hs.1, hR.charge s b k hs.2⟩
  credit s b hs := ⟨hP.credit s b hs.1, hR.credit s b hs.2⟩
  enrol s b h hs := ⟨hP.enrol s b h hs.1, hR.enrol s b h hs.2⟩
  reinstate s b h hs := ⟨hP.reinstate s b h hs.1, hR.reinstate s b h hs.2⟩
  retireActive s b h ho hs := ⟨hP.retireActive s b h ho hs.1, hR.retireActive s b h ho hs.2⟩
  retireDrained s b h ho hs := ⟨hP.retireDrained s b h ho hs.1, hR.retireDrained s b h ho hs.2⟩
  declare s b h hd hs := ⟨hP.declare s b h hd hs.1, hR.declare s b h hd hs.2⟩
  absolve s b h hs := ⟨hP.absolve s b h hs.1, hR.absolve s b h hs.2⟩
  baseline s b c hs := ⟨hP.baseline s b c hs.1, hR.baseline s b c hs.2⟩
  damage s n st b p q h hp hs := ⟨hP.damage s n st b p q h hp hs.1, hR.damage s n st b p q h hp hs.2⟩
  halt s w h hs := ⟨hP.halt s w h hs.1, hR.halt s w h hs.2⟩
  create s n rest b p hb hf hk hs := ⟨hP.create s n rest b p hb hf hk hs.1, hR.create s n rest b p hb hf hk hs.2⟩
  rewrite s n st st' b p q parity h hq hk hs :=
    ⟨hP.rewrite s n st st' b p q parity h hq hk hs.1, hR.rewrite s n st st' b p q parity h hq hk hs.2⟩
  retire s n hs := ⟨hP.retire s n hs.1, hR.retire s n hs.2⟩
  sample s b n h hs := ⟨hP.sample s b n h hs.1, hR.sample s b n h hs.2⟩
  releases s b hs := ⟨hP.releases s b hs.1, hR.releases s b hs.2⟩
  progress s b hs := ⟨hP.progress s b hs.1, hR.progress s b hs.2⟩
  group s f h hs := ⟨hP.group s f h hs.1, hR.group s f h hs.2⟩
  thresholds s f h hs := ⟨hP.thresholds s f h hs.1, hR.thresholds s f h hs.2⟩
  guard s f h hs := ⟨hP.guard s f h hs.1, hR.guard s f h hs.2⟩
  clear s hs := ⟨hP.clear s hs.1, hR.clear s hs.2⟩
  startTest s i hs := ⟨hP.startTest s i hs.1, hR.startTest s i hs.2⟩
  startPass s h hs := ⟨hP.startPass s h hs.1, hR.startPass s h hs.2⟩
  testFree s h hm hs := ⟨hP.testFree s h hm hs.1, hR.testFree s h hm hs.2⟩
  moveOn s began h hc hs := ⟨hP.moveOn s began h hc hs.1, hR.moveOn s began h hc hs.2⟩
  grace s b h hs := ⟨hP.grace s b h hs.1, hR.grace s b h hs.2⟩
  pulse s b h hs := ⟨hP.pulse s b h hs.1, hR.pulse s b h hs.2⟩
  lost s b h hs := ⟨hP.lost s b h hs.1, hR.lost s b h hs.2⟩
  stall s b h hs := ⟨hP.stall s b h hs.1, hR.stall s b h hs.2⟩

/-! ## The sweep's own fields -/

/-- t stands to s as after a visit's work on its slot: the clock, the pass, the position and the rate are those of s. -/
def SweepSame (s t : State) : Prop :=
  t.clock = s.clock ∧ t.pass = s.pass ∧ t.sweepPosition = s.sweepPosition ∧ t.effectiveVpt = s.effectiveVpt

/-- VerdictFrame keeps the settings of the clock and of the sweep too. -/
theorem VerdictFrame.settings {s t : State} (h : VerdictFrame s t) :
    t.prescale = s.prescale ∧ t.divider = s.divider ∧ t.configuredVpt = s.configuredVpt
      ∧ t.timebasePending = s.timebasePending ∧ t.effectiveVpt = s.effectiveVpt ∧ t.clamped = s.clamped := by
  unfold VerdictFrame at h
  rw [State.mk.injEq] at h
  simp_all

theorem VerdictFrame.sweepSame {s t : State} (h : VerdictFrame s t) : SweepSame s t := by
  obtain ⟨-, -, -, -, hvpt, -⟩ := h.settings
  obtain ⟨-, -, -, -, -, -, -, -, -, -, -, hclock, hpass, hpos, -⟩ := h.keeps
  exact ⟨hclock, hpass, hpos, hvpt⟩

theorem sweepSame_testFreeSlot (s : State) (n : Nat) : SweepSame s (s.testFreeSlot n) := by
  unfold State.testFreeSlot
  dsimp only
  split
  · exact ⟨rfl, rfl, rfl, rfl⟩
  · rw [damageFree_eq]
    exact ⟨rfl, rfl, rfl, rfl⟩

theorem frame_visitRecord (s : State) (n : Nat) (st : Stage) (b : Bd) (p : Payload) (parity : Bool) :
    VerdictFrame s (s.visitRecord n st b p parity) := by
  unfold State.visitRecord
  split_ifs
  · exact frame_damageRecord s n b p parity
  · exact frame_enterHalted s _
  · exact ((frame_setSlot s n _).trans (frame_offer _ _ _ _ _ _)).trans (frame_charge _ _ _)
  · exact VerdictFrame.refl s

theorem sweepSame_visitSlot (s : State) (n : Nat) : SweepSame s (s.visitSlot n) := by
  unfold State.visitSlot
  split
  case h_1 => exact (frame_visitRecord s n _ _ _ _).sweepSame
  case h_4 =>
    split
    · exact sweepSame_testFreeSlot s n
    · exact ⟨rfl, rfl, rfl, rfl⟩
  all_goals exact ⟨rfl, rfl, rfl, rfl⟩

/-- A visit taken is the slot's own outcome and what follows it (R49, R158). -/
theorem sweepVisit_eq (s : State) (began : Time) :
    s.sweepVisit began = State.afterVisit began (s.visitSlot s.sweepPosition) := by
  obtain ⟨-, -, hpos, -⟩ := sweepSame_visitSlot s s.sweepPosition
  have hlt : s.sweepPosition + 1 < Config.recordSlots ↔ s.sweepPosition < 8191 := by
    show s.sweepPosition + 1 < 8192 ↔ _
    omega
  unfold State.sweepVisit State.afterVisit
  simp only [hlt, hpos]
  split
  · rfl
  · unfold State.endPass State.endTest
    dsimp only
    split
    next hm =>
      unfold State.latchTestDone
      cases hdone : (s.visitSlot s.sweepPosition).latches.testDone <;>
        simp [State.modifyLatches, passPeriod, visitRate, TestCauses.empty, hdone]
    next => rfl

/-! ## What a batch of TAKE meets -/

theorem freeSlot_slot (s : State) (n m : Nat) : (s.freeSlot n).slot m = if m = n then none else s.slot m := by
  rw [freeSlot_eq]
  exact mapFind_mapRemove n m s.slots

theorem leaveList_slots (s : State) (b : Bd) (n : Nat) (d : Bool) : (s.leaveList b n d).slots = s.slots := by
  have hset : ∀ (t : State) (p : Bool), (if p = true then t.setBoardState b .drained else t).slots = t.slots := by
    intro t p
    split
    · unfold State.setBoardState State.reportState State.reevaluateCommon
      dsimp only
      split_ifs <;> rfl
    · rfl
  exact hset _ _

/-- A retired slot is FREE, and every other slot holds what it held (R14). -/
theorem retire_slot (s : State) (n m : Nat) : (s.retire n).slot m = if m = n then none else s.slot m := by
  have hleft (t : State) (b : Bd) (d : Bool) : ((t.leaveList b n d).freeSlot n).slot m = if m = n then none else t.slot m := by
    rw [freeSlot_slot, State.slot, leaveList_slots, State.slot]
  unfold State.retire
  split
  next hs =>
    split
    next hm => rw [hm, hs]
    next => rfl
  next b _ _ _ => exact hleft (s.dropIndexOf n) b false
  next b _ _ _ => exact hleft s b true
  next => exact freeSlot_slot _ n m

/-- Slot m is FREE or linked to board b. -/
def State.FreeOrLinked (s : State) (b : Bd) (m : Nat) : Prop := s.slot m = none ∨ s.linkedTo b m = true

/-- A record of a TAKE batch leaves every slot FREE or linked that was so. -/
theorem takeOne_freeOrLinked (s : State) (b : Bd) (n m : Nat) (hm : s.FreeOrLinked b m) :
    (s.takeOne b n).1.FreeOrLinked b m := by
  have hretire (t : State) (ht : t.FreeOrLinked b m) : (t.retire n).FreeOrLinked b m := by
    unfold State.FreeOrLinked State.linkedTo at ht ⊢
    rw [retire_slot]
    split
    · exact .inl rfl
    · exact ht
  unfold State.takeOne
  split
  next p parity _ =>
    dsimp only
    split
    · exact hretire _ (by simpa [State.FreeOrLinked, State.linkedTo] using hm)
    · refine hretire _ ?_
      unfold State.FreeOrLinked State.linkedTo at hm ⊢
      rw [damageRecord_slot]
      by_cases hmn : m = n <;> simp [hmn, hm]
  next => exact hretire s hm
  next => exact hretire s hm
  next => exact hm

/-! ## Requests and events -/

namespace OpKept

variable {P : State → Prop} (h : OpKept P)
include h

theorem answer (s : State) (code tag : Byte) (o : OutcomeCode) (p : List Byte) (hs : P s) : P (s.answer code tag o p) :=
  h.aside _ _ (aside_answer s code tag o p) hs

theorem offer (s : State) (e : WatchEvent) (n : Nat) (b : Bd) (k : Key) (w : BitVec 4) (hs : P s) : P (s.offer e n b k w) :=
  h.aside _ _ (aside_offer s e n b k w) hs

theorem offerOverdue (s : State) (j : Judgement) (n : Nat) (b : Bd) (p : Payload) (hs : P s) : P (s.offerOverdue j n b p) := by
  unfold State.offerOverdue
  split
  · exact h.offer s _ _ _ _ _ hs
  · exact hs

theorem chargeStage (s : State) (b : Bd) (st : Stage) (j : Judgement) (hs : P s) : P (s.chargeStage b st j) := by
  cases j
  case charged => exact h.charge s b _ hs
  all_goals exact hs

theorem lodgeChecked (s : State) (tag : Byte) (b : Bd) (k : Key) (c : Fin 4) (r : Option (BitVec 32)) (hs : P s) :
    P (s.lodgeChecked tag b k c r) := by
  unfold State.lodgeChecked
  split
  next => exact h.answer s _ _ _ _ hs
  next hb =>
    split
    next => exact h.answer s _ _ _ _ hs
    next =>
      split
      next => exact h.answer s _ _ _ _ hs
      next hk =>
        split
        next => exact h.answer s _ _ _ _ hs
        next =>
          split
          next => exact h.answer s _ _ _ _ hs
          next n rest hf =>
            exact h.answer _ _ _ _ _ (h.offer _ _ _ _ _ _
              (h.create s n rest b (s.newPayload b k c r) (by simpa using hb) hf (by simpa [State.newPayload] using hk) hs))

theorem serveLodge (tag board : Byte) (k : Key) (cls : Byte) (r : Option (BitVec 32)) (s : State) (hs : P s) :
    P (serveLodge tag board k cls r s) := by
  unfold Machine.serveLodge
  split
  · exact h.answer s _ _ _ _ hs
  · split
    · exact h.answer s _ _ _ _ hs
    · split
      · exact h.lodgeChecked s _ _ _ _ _ hs
      · exact h.answer s _ _ _ _ hs

omit h in
theorem sampleOf_le (now : Time) (p : Payload) : sampleOf now p ≤ 65535 := by
  unfold sampleOf
  split <;> omega

theorem advanceRecord (s : State) (tag : Byte) (n : Nat) (b : Bd) (p : Payload) (parity : Bool) (a : BitVec 32)
    (hslot : s.slot n = some (.record .lodged b p parity)) (hk : s.lookupKey p.key = some n) (hs : P s) :
    P (s.advanceRecord tag n b p a) := by
  let j := judge s.clock (s.board b).state p
  have hwrite := h.rewrite s n .lodged .decided b p (s.advancedPayload p j a) parity hslot rfl hk hs
  have hoffered := h.offer _ .advance n b p.key p.watchSet (h.offerOverdue _ j n b (s.advancedPayload p j a) hwrite)
  exact h.answer _ _ _ _ _ (h.chargeStage _ b .lodged j (h.progress _ b (h.sample _ b _ (sampleOf_le _ _) hoffered)))

/-- An index entry whose slot is not a record of its key fails the index check (R152). -/
theorem haltIndex (s : State) (k : Key) (n : Nat) (hk : s.lookupKey k = some n)
    (hslot : ∀ st b p q, s.slot n = some (.record st b p q) → readsClean p q = true → p.key ≠ k) (hs : P s) :
    P (s.enterHalted .keyIndex) :=
  h.halt s _ (.inl ⟨k, n, hk, hslot⟩) hs

theorem serveAdvance (tag : Byte) (k : Key) (a : BitVec 32) (s : State) (hs : P s) : P (serveAdvance tag k a s) := by
  unfold Machine.serveAdvance
  split
  next => exact h.answer s _ _ _ _ hs
  next =>
    split
    next => exact h.answer s _ _ _ _ hs
    next n hk =>
      split
      next st b p parity hslot =>
        split_ifs with _ hst hp hkey
        · exact h.answer s _ _ _ _ hs
        · exact h.answer s _ _ _ _ hs
        · exact h.answer _ _ _ _ _ (h.damage s n st b p parity hslot (by simpa using hp) hs)
        · exact h.answer _ _ _ _ _ (h.haltIndex s k n hk (by simp [hslot]; grind) hs)
        · have hkey : p.key = k := by simpa using hkey
          cases st
          case lodged => exact h.advanceRecord s tag n b p parity a hslot (hkey ▸ hk) hs
          case decided => exact absurd rfl hst
      next hslot => exact h.answer _ _ _ _ _ (h.haltIndex s k n hk (by simp [hslot]) hs)
      next hslot => exact h.answer _ _ _ _ _ (h.haltIndex s k n hk (by simp [hslot]) hs)
      next hslot => exact h.answer _ _ _ _ _ (h.haltIndex s k n hk (by simp [hslot]) hs)

theorem releaseReport (s : State) (b : Bd) (st : Stage) (p : Payload) (c : Bool) (hs : P s) : P (s.releaseReport b st p c) := by
  unfold State.releaseReport
  split
  · exact hs
  · cases st
    · exact h.progress _ b (h.releases _ b (h.sample s b _ (sampleOf_le _ _) hs))
    · exact h.progress _ b (h.releases s b hs)

theorem releaseRecord (s : State) (tag : Byte) (n : Nat) (b : Bd) (st : Stage) (p : Payload) (c : Bool) (hs : P s) :
    P (s.releaseRecord tag n b st p c) := by
  let j := judge s.clock (s.board b).state p
  have hreport := h.releaseReport _ b st (p.judged st j) c
    (h.retire _ n (h.offer _ .release n b (p.judged st j).key (p.judged st j).watchSet
      (h.offerOverdue s j n b (p.judged st j) hs)))
  unfold State.releaseRecord
  dsimp only
  split
  · exact h.answer _ _ _ _ _ (h.credit _ b hreport)
  · exact h.answer _ _ _ _ _ (h.chargeStage _ b st j hreport)

theorem serveRelease (tag : Byte) (k : Key) (o : Byte) (s : State) (hs : P s) : P (serveRelease tag k o s) := by
  unfold Machine.serveRelease
  split
  next => exact h.answer s _ _ _ _ hs
  next =>
    split
    next => exact h.answer s _ _ _ _ hs
    next =>
      split
      next => exact h.answer s _ _ _ _ hs
      next n hk =>
        split
        next st b p parity hslot =>
          split_ifs with hp hkey hsound
          · exact h.answer _ _ _ _ _ (h.damage s n st b p parity hslot (by simpa using hp) hs)
          · exact h.answer _ _ _ _ _ (h.haltIndex s k n hk (by simp [hslot]; grind) hs)
          · exact h.answer _ _ _ _ _ (h.halt s _ (.inl ⟨n, st, p, parity, hslot, by simpa using hsound⟩) hs)
          · exact h.answer _ _ _ _ _ (h.retire _ n (h.offer s _ _ _ _ _ hs))
          · exact h.releaseRecord s tag n b st p _ hs
        next hslot => exact h.answer _ _ _ _ _ (h.haltIndex s k n hk (by simp [hslot]) hs)
        next hslot => exact h.answer _ _ _ _ _ (h.haltIndex s k n hk (by simp [hslot]) hs)
        next hslot => exact h.answer _ _ _ _ _ (h.haltIndex s k n hk (by simp [hslot]) hs)

theorem serveLookup (tag : Byte) (k : Key) (s : State) (hs : P s) : P (serveLookup tag k s) := by
  unfold Machine.serveLookup State.lookupFailure
  split
  next => exact h.answer s _ _ _ _ hs
  next n hk =>
    split
    next st b p parity hslot =>
      split_ifs with hp hkey
      · exact h.answer _ _ _ _ _ (h.damage s n st b p parity hslot (by simpa using hp) hs)
      · exact h.answer _ _ _ _ _ (h.haltIndex s k n hk (by simp [hslot]; grind) hs)
      · exact h.answer _ _ _ _ _ (h.haltIndex s k n hk (by simp [hslot]; grind) hs)
      · exact h.answer s _ _ _ _ hs
    next hslot => exact h.answer _ _ _ _ _ (h.haltIndex s k n hk (by simp [hslot]) hs)
    next hslot => exact h.answer _ _ _ _ _ (h.haltIndex s k n hk (by simp [hslot]) hs)
    next hslot => exact h.answer _ _ _ _ _ (h.haltIndex s k n hk (by simp [hslot]) hs)

theorem servePeek (tag : Byte) (w : BitVec 16) (s : State) (hs : P s) : P (servePeek tag w s) := by
  unfold Machine.servePeek State.peekRead
  split
  next => exact h.answer s _ _ _ _ hs
  next =>
    split
    next st b p parity hslot =>
      split
      next => exact h.answer s _ _ _ _ hs
      next hp => exact h.answer _ _ _ _ _ (h.damage s _ st b p parity hslot (by simpa using hp) hs)
    all_goals exact h.answer s _ _ _ _ hs

theorem serveEnrol (tag board : Byte) (s : State) (hs : P s) : P (serveEnrol tag board s) := by
  unfold Machine.serveEnrol
  split
  next => exact h.answer s _ _ _ _ hs
  next b _ =>
    split
    next => exact h.answer s _ _ _ _ hs
    next hb => exact h.answer _ _ _ _ _ (h.enrol s b (by simpa using hb) hs)

theorem serveReinstate (tag board : Byte) (s : State) (hs : P s) : P (serveReinstate tag board s) := by
  unfold Machine.serveReinstate
  split
  next => exact h.answer s _ _ _ _ hs
  next b _ =>
    split
    next => exact h.answer s _ _ _ _ hs
    next hb => exact h.answer _ _ _ _ _ (h.reinstate s b (by simpa using hb) hs)

theorem serveRetire (tag board : Byte) (s : State) (hs : P s) : P (serveRetire tag board s) := by
  unfold Machine.serveRetire
  split
  next => exact h.answer s _ _ _ _ hs
  next b _ =>
    split_ifs with hb ho
    · exact h.answer s _ _ _ _ hs
    · exact h.answer s _ _ _ _ hs
    · have hout : (s.board b).outstanding = 0 := by omega
      exact h.answer _ _ _ _ _ (h.retireDrained s b ‹_› hout hs)
    · have hout : (s.board b).outstanding = 0 := by omega
      have hactive : (s.board b).state = .warming ∨ (s.board b).state = .live := by
        cases hst : (s.board b).state <;> simp_all
      exact h.answer _ _ _ _ _ (h.retireActive s b hactive hout hs)

theorem serveDeclare (tag board : Byte) (s : State) (hs : P s) : P (serveDeclare tag board s) := by
  unfold Machine.serveDeclare
  split
  next => exact h.answer s _ _ _ _ hs
  next b _ =>
    split_ifs with hb hd
    · exact h.answer s _ _ _ _ hs
    · exact h.answer s _ _ _ _ hs
    · exact h.answer _ _ _ _ _ (h.declare s b (by simpa using hb) (by omega) hs)

theorem serveAbsolve (tag board : Byte) (s : State) (hs : P s) : P (serveAbsolve tag board s) := by
  unfold Machine.serveAbsolve
  split
  next => exact h.answer s _ _ _ _ hs
  next b _ =>
    split
    next => exact h.answer s _ _ _ _ hs
    next hb =>
      have hst : (s.board b).state = .live ∨ (s.board b).state = .doubtful := by
        by_contra hne
        exact hb (not_or.1 hne)
      exact h.answer _ _ _ _ _ (h.absolve s b hst hs)

theorem takeOne (s : State) (b : Bd) (n : Nat) (hn : s.FreeOrLinked b n) (hs : P s) : P (s.takeOne b n).1 := by
  unfold State.takeOne
  split
  next st link p parity hslot =>
    obtain rfl : link = b := by simpa [State.FreeOrLinked, State.linkedTo, hslot] using hn
    dsimp only
    split
    next => exact h.retire _ n (h.offer s _ _ _ _ _ hs)
    next hp => exact h.retire _ n (h.damage s n st _ p parity hslot (by simpa using hp) hs)
  next => exact h.retire s n hs
  next => exact h.retire s n hs
  next => exact hs

theorem takeBatch (b : Bd) (ns : List Nat) (s : State) (hns : ∀ n ∈ ns, s.FreeOrLinked b n) (hs : P s) :
    P (State.takeBatch b ns s).1 := by
  induction ns generalizing s with
  | nil => exact hs
  | cons n ns ih =>
    exact ih _ (fun m hm => takeOne_freeOrLinked s b n m (hns m (List.mem_cons_of_mem n hm)))
      (h.takeOne s b n (hns n List.mem_cons_self) hs)

theorem serveTake (tag board n : Byte) (s : State) (hs : P s) : P (serveTake tag board n s) := by
  unfold Machine.serveTake
  split
  next => exact h.answer s _ _ _ _ hs
  next =>
    split
    next => exact h.answer s _ _ _ _ hs
    next b _ =>
      split_ifs with _ _ hsound
      · exact h.answer s _ _ _ _ hs
      · exact h.answer s _ _ _ _ hs
      · exact h.answer _ _ _ _ _ (h.halt s _ (.inr (.inl ⟨_, by simpa using hsound⟩)) hs)
      · have hlinked : ((s.list b).take (min n.toNat (s.board b).outstanding)).all (s.linkedTo b) = true := by
          have hs : s.takeSound b (min n.toNat (s.board b).outstanding) = true := by simpa using hsound
          exact ((Bool.and_eq_true _ _).mp hs).1
        exact h.answer _ _ _ _ _ (h.takeBatch b _ s (fun m hm => .inr (List.all_eq_true.1 hlinked m hm)) hs)

theorem retireAll (ns : List Nat) (s : State) (hs : P s) : P (s.retireAll ns) := by
  unfold State.retireAll
  induction ns generalizing s with
  | nil => exact hs
  | cons n ns ih => exact ih _ (h.retire s n hs)

theorem servePurge (tag board : Byte) (s : State) (hs : P s) : P (servePurge tag board s) := by
  unfold Machine.servePurge State.purgeBoard State.purgeUnattributed
  split
  next => exact h.answer s _ _ _ _ hs
  next =>
    split
    next => exact h.answer _ _ _ _ _ (h.retireAll _ s hs)
    next =>
      split
      next => exact h.answer s _ _ _ _ hs
      next b _ =>
        split
        next hsound => exact h.answer _ _ _ _ _ (h.halt s _ (.inr (.inr (by simpa using hsound))) hs)
        next => exact h.answer _ _ _ _ _ (h.retireAll _ s hs)

theorem serveReport (tag board : Byte) (c : BitVec 16) (s : State) (hs : P s) : P (serveReport tag board c s) := by
  unfold Machine.serveReport State.takeBaseline State.crossCheck
  split
  next => exact h.answer s _ _ _ _ hs
  next b _ =>
    split
    next => exact h.answer s _ _ _ _ hs
    next =>
      split
      next => exact h.answer _ _ _ _ _ (h.baseline s b _ hs)
      next =>
        dsimp only
        split
        · exact h.answer _ _ _ _ _ (h.charge s b _ hs)
        · exact h.answer s _ _ _ _ hs

theorem serveBoard (tag slot : Byte) (s : State) (hs : P s) : P (serveBoard tag slot s) := by
  unfold Machine.serveBoard
  split <;> exact h.answer s _ _ _ _ hs

theorem serveDevice (tag part : Byte) (s : State) (hs : P s) : P (serveDevice tag part s) := by
  unfold Machine.serveDevice
  split <;> exact h.answer s _ _ _ _ hs

theorem serveGetgroup (tag group : Byte) (s : State) (hs : P s) : P (serveGetgroup tag group s) := by
  unfold Machine.serveGetgroup
  split <;> exact h.answer s _ _ _ _ hs

/-- A SETGROUP keeps P when its write does, under the checks it has passed. -/
theorem setgroup (s : State) (tag : Byte) (number : Nat) (check : Option Nat) (write : State → State)
    (hwrite : check = none → P (write s)) (hs : P s) : P (s.setgroup tag number check write) := by
  unfold State.setgroup
  cases check
  case none => exact h.answer _ _ _ _ _ (hwrite rfl)
  case some => exact h.answer s _ _ _ _ hs

theorem writeTimebase (f : Timebase) (s : State) (hs : P s) : P (writeTimebase f s) :=
  h.group { s with timebasePending := true } (fun g => { g with timebase := .written f }) rfl
    (h.aside s _ ⟨_, _, _, _, _, _, _, _, _, rfl⟩ hs)

theorem writeWeights (f : Weights) (s : State) (hs : P s) : P (writeWeights f s) :=
  h.group { s with effWeights := f } (fun g => { g with weights := .written f }) rfl
    (h.aside s _ ⟨_, _, _, _, _, _, _, _, _, rfl⟩ hs)

theorem writeTable (f : TableSettings) (s : State) (hs : P s) : P (writeTable f s) :=
  h.group { s with tableHighArmed := decide (s.occupancy < f.highMark.toNat) } (fun g => { g with table := .written f }) rfl
    (h.aside s _ ⟨_, _, _, _, _, _, _, _, _, rfl⟩ hs)

theorem writeMasks (f : Masks) (s : State) (hs : P s) : P (writeMasks f s) :=
  h.group { s with noticeMask := f.noticeMask, faultMask := f.faultMask } (fun g => { g with masks := .written f }) rfl
    (h.aside s _ ⟨_, _, _, _, _, _, _, _, _, rfl⟩ hs)

theorem serveSetwatch (tag unit : Byte) (w : WatchSettings) (s : State) (hs : P s) : P (serveSetwatch tag unit w s) := by
  unfold Machine.serveSetwatch
  split
  · split
    · exact h.answer s _ _ _ _ hs
    · exact h.aside s _ ⟨_, _, _, _, _, _, _, _, _, rfl⟩ hs
  · exact h.answer s _ _ _ _ hs

theorem serveNotice (tag : Byte) (s : State) (hs : P s) : P (serveNotice tag s) := by
  unfold Machine.serveNotice
  split
  · exact h.answer s _ _ _ _ hs
  · exact h.answer _ _ _ _ _ (h.aside s _ (aside_modifyLatches s _) hs)

theorem serveTest (tag inject : Byte) (s : State) (hs : P s) : P (serveTest tag inject s) := by
  unfold Machine.serveTest
  split_ifs
  · exact h.answer s _ _ _ _ hs
  · exact h.answer s _ _ _ _ hs
  · exact h.answer s _ _ _ _ hs
  · exact h.answer _ _ _ _ _ (h.startTest s _ hs)

/-- Every request served keeps P. -/
theorem serve (i : Instr) (s : State) (hs : P s) : P (serve i s) := by
  cases i
  case lodge tag board key cls router => exact h.serveLodge tag board key cls router s hs
  case advance tag key a => exact h.serveAdvance tag key a s hs
  case release tag key o => exact h.serveRelease tag key o s hs
  case lookup tag key => exact h.serveLookup tag key s hs
  case peek tag slot => exact h.servePeek tag slot s hs
  case enrol tag board => exact h.serveEnrol tag board s hs
  case reinstate tag board => exact h.serveReinstate tag board s hs
  case retire tag board => exact h.serveRetire tag board s hs
  case declare tag board => exact h.serveDeclare tag board s hs
  case absolve tag board => exact h.serveAbsolve tag board s hs
  case take tag board n => exact h.serveTake tag board n s hs
  case purge tag board => exact h.servePurge tag board s hs
  case report tag board count => exact h.serveReport tag board count s hs
  case board tag slot => exact h.serveBoard tag slot s hs
  case device tag part => exact h.serveDevice tag part s hs
  case setgroupTimebase tag f => exact h.setgroup s tag 0 _ _ (fun _ => h.writeTimebase f s hs) hs
  case setgroupProfile tag c f => exact h.setgroup s tag _ _ _ (fun _ => h.group s _ rfl hs) hs
  case setgroupLatency tag f => exact h.setgroup s tag 5 _ _ (fun _ => h.group s _ rfl hs) hs
  case setgroupWeights tag f => exact h.setgroup s tag 6 _ _ (fun _ => h.writeWeights f s hs) hs
  case setgroupThresholds tag f => exact h.setgroup s tag 7 _ _ (fun hc => h.thresholds s f hc hs) hs
  case setgroupHeartbeat tag f => exact h.setgroup s tag 8 _ _ (fun _ => h.group s _ rfl hs) hs
  case setgroupGuard tag f => exact h.setgroup s tag 9 _ _ (fun hc => h.guard s f hc hs) hs
  case setgroupTable tag f => exact h.setgroup s tag 10 _ _ (fun _ => h.writeTable f s hs) hs
  case setgroupMasks tag f => exact h.setgroup s tag 11 _ _ (fun _ => h.writeMasks f s hs) hs
  case getgroup tag group => exact h.serveGetgroup tag group s hs
  case setwatch tag unit w => exact h.serveSetwatch tag unit w s hs
  case notice tag => exact h.serveNotice tag s hs
  case test tag inject => exact h.serveTest tag inject s hs
  case clear tag => exact h.answer _ _ _ _ _ (h.clear s hs)
  case ident tag => exact h.answer s _ _ _ _ hs
  all_goals exact hs

theorem linkCheckEffect (s : State) (hpop : P s.popFrame) (hs : P s) : P (linkCheckEffect s) := by
  unfold Machine.linkCheckEffect
  split
  · exact hs
  · split
    · exact h.answer _ _ _ _ _ hpop
    · exact h.serve _ _ hpop

theorem passStartEffect (s : State) (hs : P s) : P (passStartEffect s) := by
  unfold Machine.passStartEffect
  split
  next hd => exact h.startPass s hd hs
  next => exact hs

theorem visitSlot (s : State) (hs : P s) : P (s.visitSlot s.sweepPosition) := by
  unfold State.visitSlot
  split
  next st b p parity hslot =>
    unfold State.visitRecord
    split_ifs with hp hk
    · exact h.damage s _ st b p parity hslot (by simpa using hp) hs
    · exact h.halt s _ (.inr ⟨_, st, b, p, parity, hslot, by simpa using hp, hk⟩) hs
    · have hkey : ∀ now e, (p.marked st now e).key = p.key := fun now e => by cases st <;> rfl
      exact h.charge _ b _ (h.offer _ _ _ _ _ _
        (h.rewrite s _ st st b p _ parity hslot (hkey _ _) (by simpa using hk) hs))
    · exact hs
  next => exact hs
  next => exact hs
  next hslot =>
    split
    next hm => exact h.testFree s hslot hm hs
    next => exact hs

theorem sweepVisitEffect (s : State) (hs : P s) : P (sweepVisitEffect s) := by
  unfold Machine.sweepVisitEffect
  split
  next => exact hs
  next began hpass =>
    split
    next hdue =>
      have hclock : s.clock = s.visitTime began := by
        simp only [State.visitDue, hpass, Bool.and_eq_true, decide_eq_true_eq] at hdue
        exact hdue.2
      obtain ⟨hc, hp, hpos, hvpt⟩ := sweepSame_visitSlot s s.sweepPosition
      rw [sweepVisit_eq]
      refine h.moveOn _ began (hp.trans hpass) ?_ (h.visitSlot s hs)
      rw [State.visitTime, hpos, hvpt, hc, hclock, State.visitTime]
    next => exact hs

theorem sweepOut (k : Nat) (s : State) (hs : P s) : P (State.sweepOut k s) := by
  induction k generalizing s with
  | zero => exact hs
  | succ k ih =>
    unfold State.sweepOut
    split
    · exact ih _ (h.passStartEffect s hs)
    · split
      · exact ih _ (h.sweepVisitEffect s hs)
      · exact hs

theorem graceExpiryEffect (b : Bd) (s : State) (hs : P s) : P (graceExpiryEffect b s) := by
  unfold Machine.graceExpiryEffect
  split
  next hb => exact h.grace s b hb.1 hs
  next => exact hs

omit h in
/-- A timer that has run out was armed. -/
theorem isSome_of_ranOut {s : State} {e : Option Time} (hr : s.ranOut e = true) : e.isSome = true := by
  cases e
  case none => exact absurd hr Bool.false_ne_true
  case some => rfl

theorem lostExpiryEffect (b : Bd) (s : State) (hs : P s) : P (lostExpiryEffect b s) := by
  unfold Machine.lostExpiryEffect
  split
  next hr => exact h.charge _ b _ (h.lost s b (isSome_of_ranOut hr) hs)
  next => exact hs

theorem stallExpiryEffect (b : Bd) (s : State) (hs : P s) : P (stallExpiryEffect b s) := by
  unfold Machine.stallExpiryEffect
  split
  next hr =>
    have hrearmed := h.stall s b (isSome_of_ranOut hr) hs
    split
    · exact hrearmed
    · exact h.charge _ b _ hrearmed
  next => exact hs

theorem expireTimers (s : State) (b : Bd) (hs : P s) : P (s.expireTimers b) :=
  h.stallExpiryEffect b _ (h.lostExpiryEffect b _ (h.graceExpiryEffect b s hs))

theorem expireAll (bs : List Bd) (s : State) (hs : P s) : P (bs.foldl State.expireTimers s) := by
  induction bs generalizing s with
  | nil => exact hs
  | cons b bs ih => exact ih _ (h.expireTimers s b hs)

/-- What falls due in a TU keeps P. -/
theorem endTu (s : State) (hs : P s) : P s.endTu := h.expireAll allBoards _ (h.sweepOut _ s hs)

theorem pulseEffect (b : Bd) (s : State) (hs : P s) : P (pulseEffect b s) := by
  have hcount (hb : (s.board b).state.isActive = true) : P (s.countPulse b) := h.pulse s b hb hs
  unfold Machine.pulseEffect
  split
  case h_1 hb => exact hcount (by simp [hb, BoardState.isActive])
  case h_2 hb | h_3 hb =>
    have hcounted := hcount (by simp [hb, BoardState.isActive])
    split
    · exact h.charge _ b _ hcounted
    · exact hcounted
  all_goals exact hs

/-- An event of the part's own clock, or on a heartbeat line, keeps P, if a TU's end does. -/
theorem clockEffect {i : Instr} {effect : State → State} (he : clockEffect i = some effect) {s : State}
    (htick : P (tuStepEffect s)) (hs : P s) : P (effect s) := by
  cases i
  case tuStep => exact Option.some.inj he ▸ htick
  case passStart => exact Option.some.inj he ▸ h.passStartEffect s hs
  case sweepVisit => exact Option.some.inj he ▸ h.sweepVisitEffect s hs
  case graceExpiry b => exact Option.some.inj he ▸ h.graceExpiryEffect b s hs
  case pulse b => exact Option.some.inj he ▸ h.pulseEffect b s hs
  case lostExpiry b => exact Option.some.inj he ▸ h.lostExpiryEffect b s hs
  case stallExpiry b => exact Option.some.inj he ▸ h.stallExpiryEffect b s hs
  all_goals exact absurd he nofun

/-- A command keeps P, if the link's and the pins' changes do, and a TU's end does. -/
theorem exec (i : Instr) (s t : State) (houtside : ∀ s t, Outside s t → P s → P t) (hpin : P s.pinReset)
    (hrelease : P s.releaseReset) (htick : P (tuStepEffect s)) (hs : P s) (ht : exec i s = .next t) : P t := by
  rcases exec_cases ht with ⟨-, rfl⟩ | ⟨-, rfl⟩ | ⟨-, rfl⟩ | ⟨u, rfl, -, hu⟩
  · exact hpin
  · exact hrelease
  · exact hs
  refine houtside _ _ (outside_driveLines u) ?_
  rcases hu with ⟨bytes, rfl⟩ | rfl | rfl | ⟨effect, heffect, rfl⟩
  · exact houtside _ _ (outside_frameArrival s bytes) hs
  · exact h.linkCheckEffect s (houtside _ _ (outside_popFrame s) hs) hs
  · exact h.serve i _ (houtside _ _ (outside_takeOff s i) hs)
  · exact h.clockEffect heffect htick hs

/-- Every step keeps P, if the link's and the pins' changes do, the pin reset brings it about, the release of RESET_N keeps it,
and a TU's end does. -/
theorem step (houtside : ∀ s t, Outside s t → P s → P t) (hpin : ∀ s : State, P s.pinReset)
    (hrelease : ∀ s, P s → P s.releaseReset) (htick : ∀ s, P s → P (tuStepEffect s)) {s t : State} (hs : P s)
    (ht : step s = .next t) : P t := by
  unfold Machine.step at ht
  split at ht
  next =>
    cases ht
    exact hs
  next c rest _ =>
    have hrest : P { s with pending := rest } := houtside s _ ⟨_, _, _, _, _, _, _, rfl⟩ hs
    exact h.exec c _ t houtside (hpin _) (hrelease _ hrest) (htick _ hrest) hrest ht

end OpKept

end Sys2Proof.Machine

/-! SUPPORT. What each operation makes of a board's record and line, and from it: a property of the boards' records and lines
one by one is kept by every operation when the record's own changes keep it. -/

namespace Sys2Proof.Machine

/-! ## What each operation makes of a board's record and line -/

theorem enterWarming_reads (s : State) (b c : Bd) :
    (s.enterWarming b).board c = (if c = b then (s.board b).warmed s.seed (s.after s.graceLength) else s.board c)
      ∧ (s.enterWarming b).line c = (if c = b then Line.reset else s.line c) := by
  simp [State.enterWarming]

theorem leaveService_reads (s : State) (b c : Bd) :
    (s.leaveService b).board c = (if c = b then (s.board b).retired else s.board c)
      ∧ (s.leaveService b).line c = (if c = b then { s.line b with intervalArmed := false } else s.line c) := by
  simp [State.leaveService]

theorem absolveBoard_reads (s : State) (b c : Bd) :
    (s.absolveBoard b).board c =
        (if c = b then { s.board b with score := 0, pending := false, state := .live } else s.board c)
      ∧ (s.absolveBoard b).line c = s.line c := by
  by_cases hc : c = b <;> simp [State.absolveBoard, State.clearPending, hc]

theorem writeRecord_reads (s : State) (n : Nat) (st : Stage) (b c : Bd) (p : Payload) :
    (s.writeRecord n st b p).board c = s.board c ∧ (s.writeRecord n st b p).line c = s.line c := ⟨rfl, rfl⟩

/-- The record of a board for which a record has been created. -/
def Board.lodged (x : Board) (stall : Time) : Board :=
  { x with
    outstanding := x.outstanding + 1
    stallExpiry :=
      if x.outstanding = 0 ∧ (x.state = .live ∨ x.state = .doubtful) then some stall else x.stallExpiry }

/-- The record of a board whose list a slot has left, o slots being left outstanding and d damaged. -/
def Board.left (x : Board) (o d : Nat) (st : BoardState) : Board :=
  { x with outstanding := o, damaged := d, stallExpiry := if o = 0 then none else x.stallExpiry, state := st }

theorem leaveList_boards (s : State) (b c : Bd) (n : Nat) (d : Bool) :
    (s.leaveList b n d).line c = s.line c
      ∧ (c ≠ b → (s.leaveList b n d).board c = s.board c)
      ∧ ∃ o st, (o = 0 ∨ o = (s.board b).outstanding - 1)
        ∧ (st = (s.board b).state ∨ (s.board b).state = .silent ∧ st = .drained)
        ∧ (s.leaveList b n d).board b = (s.board b).left o ((s.board b).damaged - d.toNat) st := by
  have hothers := fun hc : c ≠ b => (leaveList_others s b c n d hc).2
  let o := if (s.list b).erase n = [] then 0 else (s.board b).outstanding - 1
  have ho : o = 0 ∨ o = (s.board b).outstanding - 1 := by
    by_cases he : (s.list b).erase n = [] <;> simp [o, he]
  by_cases hb : (s.board b).state = .silent
  · rw [leaveList_of_silent s b n d hb] at hothers ⊢
    refine ⟨rfl, hothers, o, if (s.list b).erase n = [] then .drained else .silent, ho, ?_, ?_⟩
    · by_cases he : (s.list b).erase n = [] <;> simp [hb, he]
    · simp [Board.left, o]
  · rw [leaveList_eq s b n d (.inr hb)] at hothers ⊢
    exact ⟨rfl, hothers, o, _, ho, .inl rfl, by simp [Board.left, o]⟩

/-- A removal changes its board's list and the boards' records alone. -/
theorem leaveList_frame (s : State) (b : Bd) (n : Nat) (d : Bool) :
    ∃ lists boards, s.leaveList b n d = { s with lists := lists, boards := boards } := by
  by_cases hb : (s.board b).state = .silent
  · exact ⟨_, _, leaveList_of_silent s b n d hb⟩
  · exact ⟨_, _, leaveList_eq s b n d (.inr hb)⟩

/-- A retirement changes the Custody Table and the boards' records alone. -/
theorem retire_eq (s : State) (n : Nat) :
    ∃ slots index free lists unattributed occupancy armed boards,
      s.retire n =
        { s with
          slots := slots, index := index, free := free, lists := lists, unattributed := unattributed
          occupancy := occupancy, tableHighArmed := armed, boards := boards } := by
  unfold State.retire
  split
  next => exact ⟨_, _, _, _, _, _, _, _, rfl⟩
  next b _ _ _ =>
    obtain ⟨lists, boards, hleft⟩ := leaveList_frame (s.dropIndexOf n) b n false
    rw [hleft, freeSlot_eq]
    exact ⟨_, _, _, _, _, _, _, _, rfl⟩
  next b _ _ _ =>
    obtain ⟨lists, boards, hleft⟩ := leaveList_frame s b n true
    rw [hleft, freeSlot_eq]
    exact ⟨_, _, _, _, _, _, _, _, rfl⟩
  next =>
    rw [freeSlot_eq]
    exact ⟨_, _, _, _, _, _, _, _, rfl⟩

/-- A creation changes the Custody Table, TABLE_HIGH's latch and the boards' records alone. -/
theorem createRecord_eq (s : State) (n : Nat) (rest : List Nat) (b : Bd) (p : Payload) :
    s.createRecord n rest b p =
      { s with
        slots := mapPut n (.record .lodged b p (parityOf p)) s.slots, index := mapPut (keyNumber p.key) n s.index
        free := rest, lists := s.lists.set b.val (s.list b ++ [n]) b.isLt, occupancy := s.occupancy + 1
        tableHighArmed := s.tableHighArmed && !decide (s.highMark ≤ s.occupancy + 1)
        latches := { s.latches with
          tableHigh :=
            if s.tableHighArmed = true ∧ s.highMark ≤ s.occupancy + 1 then
              some (s.latches.tableHigh.getD ⟨s.clock, s.occupancy + 1⟩)
            else s.latches.tableHigh }
        boards := s.boards.set b.val ((s.board b).lodged (s.after s.stallLimit)) b.isLt } := by
  unfold State.createRecord
  dsimp only
  rw [occupancyRise_eq]
  rfl

theorem createRecord_boards (s : State) (n : Nat) (rest : List Nat) (b c : Bd) (p : Payload) :
    (s.createRecord n rest b p).board c = (if c = b then (s.board b).lodged (s.after s.stallLimit) else s.board c)
      ∧ (s.createRecord n rest b p).line c = s.line c := by
  rw [createRecord_eq]
  exact ⟨s.board_modifyBoard b c fun x => x.lodged (s.after s.stallLimit), rfl⟩

/-- A retirement leaves a board's record as it was, or takes one slot off its counts (R11, R14, R123). -/
theorem retire_boards (s : State) (n : Nat) (c : Bd) :
    (s.retire n).line c = s.line c
      ∧ ((s.retire n).board c = s.board c
        ∨ ∃ o d st, (o = 0 ∨ o = (s.board c).outstanding - 1)
          ∧ (st = (s.board c).state ∨ (s.board c).state = .silent ∧ st = .drained)
          ∧ (s.retire n).board c = (s.board c).left o d st) := by
  have hleft (t : State) (b : Bd) (d : Bool) (hb : ∀ c, t.board c = s.board c) (hl : ∀ c, t.line c = s.line c) :
      ((t.leaveList b n d).freeSlot n).line c = s.line c
        ∧ (((t.leaveList b n d).freeSlot n).board c = s.board c
          ∨ ∃ o d' st, (o = 0 ∨ o = (s.board c).outstanding - 1)
            ∧ (st = (s.board c).state ∨ (s.board c).state = .silent ∧ st = .drained)
            ∧ ((t.leaveList b n d).freeSlot n).board c = (s.board c).left o d' st) := by
    obtain ⟨hline, hothers, o, st, ho, hst, hself⟩ := leaveList_boards t b c n d
    rw [freeSlot_eq]
    refine ⟨hline.trans (hl c), ?_⟩
    by_cases hc : c = b
    · subst hc
      rw [hb c] at ho hst hself
      exact .inr ⟨o, _, st, ho, hst, hself⟩
    · exact .inl ((hothers hc).trans (hb c))
  unfold State.retire
  split
  next => exact ⟨rfl, .inl rfl⟩
  next b _ _ _ => exact hleft (s.dropIndexOf n) b false (fun _ => rfl) fun _ => rfl
  next b _ _ _ => exact hleft s b true (fun _ => rfl) fun _ => rfl
  next =>
    rw [freeSlot_eq]
    exact ⟨rfl, .inl rfl⟩

theorem custodyReset_reads (s : State) (c : Bd) :
    s.custodyReset.board c = (s.board c).custodyReset s.seed (s.after s.graceLength)
      ∧ s.custodyReset.line c = lineReset (s.board c) (s.line c) := by
  constructor <;> simp [State.custodyReset, State.restartSweep, State.countAnew, State.warmBoards, State.freeTable,
    State.board, State.line, State.seed, State.seedLat, State.after, State.graceLength]

/-- The record of a board that has made progress (R31, R108). -/
def Board.progressed (x : Board) (now stall : Time) : Board :=
  { x with
    lastProgress := some now
    stallExpiry := if (x.state = .live ∨ x.state = .doubtful) ∧ 0 < x.outstanding then some stall else x.stallExpiry }

theorem expireGrace_reads (s : State) (b c : Bd) (hb : (s.board b).state = .warming) :
    (s.expireGrace b).board c
        = (if c = b then (s.board b).graced (s.after s.hbMax) (s.after s.stallLimit) else s.board c)
      ∧ (s.expireGrace b).line c = s.line c := by
  rw [expireGrace_eq s b hb]
  simp

theorem countPulse_reads (s : State) (b c : Bd) :
    (s.countPulse b).board c
        = (if c = b then { s.board b with heard := true, lostExpiry := some (s.after s.hbMax) } else s.board c)
      ∧ (s.countPulse b).line c = (if c = b then ⟨some s.clock, true⟩ else s.line c) := by
  simp [State.countPulse, State.after, State.hbMax, State.hbMin]

theorem rearmLost_reads (s : State) (b c : Bd) :
    (s.rearmLost b).board c = (if c = b then { s.board b with lostExpiry := some (s.after s.hbMax) } else s.board c)
      ∧ (s.rearmLost b).line c = (if c = b then { s.line b with intervalArmed := false } else s.line c) := by
  simp [State.rearmLost, State.after, State.hbMax, State.hbMin]

/-- The effective visit of the boards by verification, a pass start or a test's start: none. -/
theorem verifyGroups_eq (s : State) :
    s.verifyGroups = { s with groups := s.groups.verify, latches := s.verifyGroups.latches } := by
  unfold State.verifyGroups
  dsimp only
  split <;> rfl

/-- A pass start changes the TIMEBASE settings, the groups' valid flags, the rate, the sweep's place and the test's phase. -/
theorem startPass_eq (s : State) :
    s.startPass =
      { s with
        prescale := s.startPass.prescale, divider := s.startPass.divider, configuredVpt := s.startPass.configuredVpt
        timebasePending := s.startPass.timebasePending, groups := s.groups.verify, latches := s.startPass.latches
        effectiveVpt := s.startPass.effectiveVpt, clamped := s.startPass.clamped, selfTest := s.startPass.selfTest
        sweepPosition := 0, pass := .running s.clock } := by
  unfold State.startPass
  dsimp only
  have htaken : ∃ pre div vpt pend, s.takeUpTimebase =
      { s with prescale := pre, divider := div, configuredVpt := vpt, timebasePending := pend } := by
    unfold State.takeUpTimebase
    split <;> exact ⟨_, _, _, _, rfl⟩
  obtain ⟨pre, div, vpt, pend, htaken⟩ := htaken
  rw [htaken, verifyGroups_eq]
  unfold State.beginMemoryPhase
  split <;> rfl

theorem testFreeSlot_eq (s : State) (n : Nat) :
    ∃ slots free unattributed occupancy armed latches selfTest freeValues,
      s.testFreeSlot n =
        { s with
          slots := slots, free := free, unattributed := unattributed, occupancy := occupancy, tableHighArmed := armed
          latches := latches, selfTest := selfTest, freeValues := freeValues } := by
  unfold State.testFreeSlot
  dsimp only
  split
  · exact ⟨_, _, _, _, _, _, _, _, rfl⟩
  · rw [damageFree_eq]
    exact ⟨_, _, _, _, _, _, _, _, rfl⟩

theorem afterVisit_eq (began : Time) (s : State) :
    ∃ pos pass selfTest latches,
      State.afterVisit began s =
        { s with sweepPosition := pos, pass := pass, selfTest := selfTest, latches := latches } := by
  unfold State.afterVisit
  dsimp only
  split_ifs <;> exact ⟨_, _, _, _, rfl⟩

/-! ## Operations within VerdictFrame -/

theorem frame_enterWarming (s : State) (b : Bd) : VerdictFrame s (s.enterWarming b) :=
  ((frame_modifyBoard s b _).trans (frame_modifyLine _ b _)).trans (frame_reportState _ _ _)

theorem frame_leaveService (s : State) (b : Bd) : VerdictFrame s (s.leaveService b) :=
  ((frame_modifyBoard s b _).trans (frame_modifyLine _ b _)).trans (frame_reportState _ _ _)

theorem frame_absolveBoard (s : State) (b : Bd) : VerdictFrame s (s.absolveBoard b) :=
  ((frame_modifyBoard s b _).trans (frame_clearPending _ b)).trans (frame_setBoardState _ _ _)

/-! ## A property of the boards' records and lines one by one -/

/-- Every board in D has a record and a line with property Q, under the effective thresholds and the clock. -/
def State.EachBoard (Q : Thresholds → Time → Board → Line → Prop) (D : Bd → Prop) (s : State) : Prop :=
  ∀ b, D b → Q s.effThresholds s.clock (s.board b) (s.line b)

/-- A timer set n TU from now, at most 2^31 - 1, runs out after now. -/
def Ahead (now e : Time) : Prop := ∃ n, 0 < n ∧ n < 2 ^ 31 ∧ e = now + BitVec.ofNat 32 n

theorem ahead_graceLength (s : State) : Ahead s.clock (s.after s.graceLength) := by
  refine ⟨s.graceLength, ?_, ?_, rfl⟩
  · unfold State.graceLength
    positivity
  · have hg := s.groups.heartbeat.fields.grace.isLt
    have hp : 2 ^ (6 + min 3 s.groups.heartbeat.fields.gdiv.toNat) ≤ 2 ^ 9 := Nat.pow_le_pow_right (by omega) (by omega)
    calc s.graceLength ≤ 256 * 2 ^ 9 := Nat.mul_le_mul (by omega) hp
      _ < 2 ^ 31 := by omega

theorem ahead_hbMax (s : State) : Ahead s.clock (s.after s.hbMax) := by
  have hmin := s.groups.heartbeat.fields.hbMin.isLt
  have hmax := s.groups.heartbeat.fields.hbMax.isLt
  refine ⟨s.hbMax, ?_, ?_, rfl⟩ <;> unfold State.hbMax State.hbMin <;> omega

theorem ahead_stallLimit (s : State) : Ahead s.clock (s.after s.stallLimit) := by
  have hlimit := s.groups.heartbeat.fields.stallLimit.isLt
  refine ⟨s.stallLimit, ?_, ?_, rfl⟩ <;> unfold State.stallLimit <;> omega

theorem seed_le (s : State) : s.seed ≤ 1048560 := by
  have h := s.groups.latency.fields.seedLat.isLt
  unfold State.seed State.seedLat
  omega

/-- Q is kept by every change that an operation makes to a board's record and line, the steps of score in charges and credits
apart. -/
structure BoardKept (Q : Thresholds → Time → Board → Line → Prop) : Prop where
  granted : ∀ th now x l st d, st = .silent ∨ st = .drained → Q th now x l →
    Q th now (x.granted st now d) { l with intervalArmed := false }
  pending : ∀ th now x l p, Q th now x l → Q th now { x with pending := p } l
  doubtful : ∀ th now x l, x.state = .live → th.alert.toNat ≤ x.score → Q th now x l → Q th now { x with state := .doubtful } l
  live : ∀ th now x l, x.state = .doubtful → x.score + th.hysteresis.toNat < th.alert.toNat → Q th now x l →
    Q th now { x with state := .live } l
  warmed : ∀ th now x l seed e, seed ≤ 1048560 → Ahead now e → Q th now x l → Q th now (x.warmed seed e) Line.reset
  emptied : ∀ th now x l seed e, seed ≤ 1048560 → Ahead now e → Q th now x l →
    Q th now { x.warmed seed e with outstanding := 0, damaged := 0 } Line.reset
  retired : ∀ th now x l, x.outstanding = 0 → Q th now x l → Q th now x.retired { l with intervalArmed := false }
  absolved : ∀ th now x l, x.state = .live ∨ x.state = .doubtful → Q th now x l →
    Q th now { x with score := 0, pending := false, state := .live } l
  baseline : ∀ th now x l c, Q th now x l → Q th now { x with baseline := some c } l
  damaged : ∀ th now x l, Q th now x l → Q th now { x with damaged := x.damaged + 1 } l
  lodged : ∀ th now x l e, x.state.isActive = true → Ahead now e → Q th now x l → Q th now (x.lodged e) l
  left : ∀ th now x l o d st, o = 0 ∨ o = x.outstanding - 1 → st = x.state ∨ x.state = .silent ∧ st = .drained →
    Q th now x l → Q th now (x.left o d st) l
  sample : ∀ th now x l n g, n ≤ 65535 → Q th now x l → Q th now { x with latency := updatedLatency x.latency n g } l
  releases : ∀ th now x l, Q th now x l → Q th now { x with releases := x.releases + 1 } l
  progressed : ∀ th now x l e, Ahead now e → Q th now x l → Q th now (x.progressed now e) l
  graced : ∀ th now x l e f, x.state = .warming → Ahead now e → Ahead now f → Q th now x l → Q th now (x.graced e f) l
  pulse : ∀ th now x l e, x.state.isActive = true → Ahead now e → Q th now x l →
    Q th now { x with heard := true, lostExpiry := some e } ⟨some now, true⟩
  lost : ∀ th now x l e, x.lostExpiry.isSome = true → Ahead now e → Q th now x l →
    Q th now { x with lostExpiry := some e } { l with intervalArmed := false }
  stall : ∀ th now x l e, x.stallExpiry.isSome = true → Ahead now e → Q th now x l →
    Q th now { x with stallExpiry := some e } l

namespace BoardKept

variable {Q : Thresholds → Time → Board → Line → Prop} (h : BoardKept Q) {D : Bd → Prop}

/-- A change of one board's record and line that keeps Q of it, under the same thresholds and clock. -/
theorem change (s t : State) (b : Bd) (hth : t.effThresholds = s.effThresholds) (hnow : t.clock = s.clock)
    (hothers : ∀ c, c ≠ b → t.board c = s.board c ∧ t.line c = s.line c) (hs : s.EachBoard Q D)
    (hb : Q s.effThresholds s.clock (s.board b) (s.line b) → Q s.effThresholds s.clock (t.board b) (t.line b)) :
    t.EachBoard Q D := by
  intro c hc
  rw [hth, hnow]
  by_cases hcb : c = b
  · subst hcb
    exact hb (hs c hc)
  · obtain ⟨hboard, hline⟩ := hothers c hcb
    rw [hboard, hline]
    exact hs c hc

theorem same {s t : State} (hth : t.effThresholds = s.effThresholds) (hnow : t.clock = s.clock)
    (hall : ∀ c, t.board c = s.board c ∧ t.line c = s.line c) (hs : s.EachBoard Q D) : t.EachBoard Q D := by
  intro c hc
  rw [hth, hnow, (hall c).1, (hall c).2]
  exact hs c hc

theorem modifyBoard {s : State} {b : Bd} {f : Board → Board} (hs : s.EachBoard Q D)
    (hf : Q s.effThresholds s.clock (s.board b) (s.line b) → Q s.effThresholds s.clock (f (s.board b)) (s.line b)) :
    (s.modifyBoard b f).EachBoard Q D :=
  change s _ b rfl rfl (fun c hc => by simp [hc]) hs fun hb => by simpa using hf hb

theorem frame_rates {s t : State} (hf : VerdictFrame s t) : t.effThresholds = s.effThresholds ∧ t.clock = s.clock := by
  obtain ⟨-, -, -, -, -, -, -, -, -, -, -, hclock, -, -, -, hth, -⟩ := hf.keeps
  exact ⟨hth, hclock⟩

theorem setBoardState {s : State} {b : Bd} {st : BoardState} (hs : s.EachBoard Q D)
    (hst : Q s.effThresholds s.clock (s.board b) (s.line b) →
      Q s.effThresholds s.clock { s.board b with state := st } (s.line b)) : (s.setBoardState b st).EachBoard Q D := by
  obtain ⟨hth, hnow⟩ := frame_rates (frame_setBoardState s b st)
  exact change s _ b hth hnow (fun c hc => by simp [hc]) hs fun hb => by simpa using hst hb

include h

theorem grantVerdict (s : State) (b : Bd) (path : VerdictPath) (hs : s.EachBoard Q D) :
    (s.grantVerdict b path).EachBoard Q D := by
  obtain ⟨hth, hnow⟩ := frame_rates (frame_grantVerdict s b path)
  obtain ⟨hothers, ⟨st, d, hst, hboard⟩, hline, -⟩ := grantVerdict_boards s b path
  refine change s _ b hth hnow (fun c hc => ⟨(hothers c hc).1, (hothers c hc).2.1⟩) hs fun hb => ?_
  rw [hboard, hline]
  exact h.granted _ _ _ _ st d hst hb

/-- Q of the boards is kept by every operation of the Verdict Unit. -/
theorem verdictKept (D : Bd → Prop) : VerdictKept (State.EachBoard Q D) where
  latch _ _ hs := hs
  grant s b path _ _ hs := h.grantVerdict s b path hs
  withhold s b _ _ hs := modifyBoard (b := b) (f := fun x => { x with pending := true }) hs (h.pending _ _ _ _ true)
  record _ _ _ _ hs := hs
  clear s b hs := modifyBoard (b := b) (f := fun x => { x with pending := false }) hs (h.pending _ _ _ _ false)
  doubt _ _ hb ha hs := setBoardState hs (h.doubtful _ _ _ _ hb ha)
  live s b hb _ hs := by
    obtain ⟨hstate, hscore⟩ : (s.board b).state = .doubtful ∧ (s.board b).score + s.levelH < s.levelA := by
      simpa [State.returnsToLive] using hb
    exact setBoardState hs (h.live _ _ _ _ hstate hscore)

theorem enterWarming (s : State) (b : Bd) (hs : s.EachBoard Q D) : (s.enterWarming b).EachBoard Q D := by
  obtain ⟨hth, hnow⟩ := frame_rates (frame_enterWarming s b)
  refine change s _ b hth hnow (fun c hc => ?_) hs fun hb => ?_
  · simp [enterWarming_reads, hc]
  · simpa [enterWarming_reads] using h.warmed _ _ _ _ _ _ (seed_le s) (ahead_graceLength s) hb

theorem leaveService (s : State) (b : Bd) (hout : (s.board b).outstanding = 0) (hs : s.EachBoard Q D) :
    (s.leaveService b).EachBoard Q D := by
  obtain ⟨hth, hnow⟩ := frame_rates (frame_leaveService s b)
  refine change s _ b hth hnow (fun c hc => ?_) hs fun hb => ?_
  · simp [leaveService_reads, hc]
  · simpa [leaveService_reads] using h.retired _ _ _ _ hout hb

theorem absolveBoard (s : State) (b : Bd) (hb : (s.board b).state = .live ∨ (s.board b).state = .doubtful)
    (hs : s.EachBoard Q D) : (s.absolveBoard b).EachBoard Q D := by
  obtain ⟨hth, hnow⟩ := frame_rates (frame_absolveBoard s b)
  refine change s _ b hth hnow (fun c hc => ?_) hs fun hq => ?_
  · simp [absolveBoard_reads, hc]
  · simpa [absolveBoard_reads] using h.absolved _ _ _ _ hb hq

theorem retire (s : State) (n : Nat) (hs : s.EachBoard Q D) : (s.retire n).EachBoard Q D := by
  have hrates : (s.retire n).effThresholds = s.effThresholds ∧ (s.retire n).clock = s.clock := by
    obtain ⟨_, _, _, _, _, _, _, _, heq⟩ := retire_eq s n
    rw [heq]
    exact ⟨rfl, rfl⟩
  intro c hc
  obtain ⟨hline, hboard⟩ := retire_boards s n c
  rw [hrates.1, hrates.2, hline]
  rcases hboard with hboard | ⟨o, d, st, ho, hst, hboard⟩ <;> rw [hboard]
  · exact hs c hc
  · exact h.left _ _ _ _ o d st ho hst (hs c hc)

theorem createRecord (s : State) (n : Nat) (rest : List Nat) (b : Bd) (p : Payload)
    (hb : (s.board b).state.isActive = true) (hs : s.EachBoard Q D) : (s.createRecord n rest b p).EachBoard Q D := by
  have hrates : (s.createRecord n rest b p).effThresholds = s.effThresholds ∧ (s.createRecord n rest b p).clock = s.clock := by
    rw [createRecord_eq]
    exact ⟨rfl, rfl⟩
  refine change s _ b hrates.1 hrates.2 (fun c hc => ?_) hs fun hq => ?_
  · simp [createRecord_boards, hc]
  · simpa [createRecord_boards] using h.lodged _ _ _ _ _ hb (ahead_stallLimit s) hq

theorem custodyReset (s : State) (hs : s.EachBoard Q D) : s.custodyReset.EachBoard Q D := by
  intro c hc
  rw [(custodyReset_reads s c).1, (custodyReset_reads s c).2, Board.custodyReset, lineReset]
  split
  · exact hs c hc
  · exact h.emptied _ _ _ _ _ _ (seed_le s) (ahead_graceLength s) (hs c hc)

theorem expireGrace (s : State) (b : Bd) (hb : (s.board b).state = .warming) (hs : s.EachBoard Q D) :
    (s.expireGrace b).EachBoard Q D := by
  rw [expireGrace_eq s b hb]
  exact modifyBoard hs (h.graced _ _ _ _ _ _ hb (ahead_hbMax s) (ahead_stallLimit s))

theorem countPulse (s : State) (b : Bd) (hb : (s.board b).state.isActive = true) (hs : s.EachBoard Q D) :
    (s.countPulse b).EachBoard Q D := by
  refine change s _ b rfl rfl (fun c hc => ?_) hs fun hq => ?_
  · simp [countPulse_reads, hc]
  · simpa [countPulse_reads] using h.pulse _ _ _ _ _ hb (ahead_hbMax s) hq

theorem rearmLost (s : State) (b : Bd) (hb : (s.board b).lostExpiry.isSome = true) (hs : s.EachBoard Q D) :
    (s.rearmLost b).EachBoard Q D := by
  refine change s _ b rfl rfl (fun c hc => ?_) hs fun hq => ?_
  · simp [rearmLost_reads, hc]
  · simpa [rearmLost_reads] using h.lost _ _ _ _ _ hb (ahead_hbMax s) hq

omit h in
theorem startPass {s : State} (hs : s.EachBoard Q D) : s.startPass.EachBoard Q D := by
  rw [startPass_eq]
  exact hs

/-- Q of the boards of D is kept by every operation, if charges, credits and new thresholds keep it. -/
theorem opKept (D : Bd → Prop) (hcharge : ∀ (s : State) b k, s.EachBoard Q D → (s.charge b k).EachBoard Q D)
    (hcredit : ∀ (s : State) b, s.EachBoard Q D → (s.credit b).EachBoard Q D)
    (hthresholds : ∀ (s : State) f, checkThresholds f = none → s.EachBoard Q D →
      (writeThresholds f s).EachBoard Q D) : OpKept (State.EachBoard Q D) where
  aside := by
    rintro s t ⟨_, _, _, _, _, _, _, _, _, rfl⟩ hs
    exact hs
  charge := hcharge
  credit := hcredit
  enrol s b _ hs := (h.verdictKept _).afterExit s _ (h.enterWarming s b hs)
  reinstate s b _ hs := (h.verdictKept _).reconsider _ (h.enterWarming s b hs)
  retireActive s b _ ho hs := (h.verdictKept _).afterExit s _ (h.leaveService s b ho hs)
  retireDrained s b _ ho hs := (h.verdictKept _).reconsider _ (h.leaveService s b ho hs)
  declare s b _ _ hs := (h.verdictKept _).afterExit s _ (h.grantVerdict s b _ hs)
  absolve s b hb hs := (h.verdictKept _).afterExit s _ (h.absolveBoard s b hb hs)
  baseline _ _ c hs := modifyBoard hs (h.baseline _ _ _ _ c)
  damage s n _ b p q _ _ hs := modifyBoard (s := (s.setSlot n (.damaged b p q)).dropIndexOf n) (b := b)
    (f := fun x => { x with damaged := x.damaged + 1 }) hs (h.damaged _ _ _ _)
  halt _ _ _ hs := hs
  create s n rest b p hb _ _ hs := h.createRecord s n rest b p hb hs
  rewrite _ _ _ _ _ _ _ _ _ _ _ hs := hs
  retire s n hs := h.retire s n hs
  sample s _ n hn hs := modifyBoard hs (h.sample _ _ _ _ n s.gain hn)
  releases _ _ hs := modifyBoard hs (h.releases _ _ _ _)
  progress s _ hs := modifyBoard hs (h.progressed _ _ _ _ _ (ahead_stallLimit s))
  group s f _ hs := (h.verdictKept _).afterSetgroup (s.modifyGroups f) hs
  thresholds := hthresholds
  guard s f _ hs :=
    (h.verdictKept _).reconsider _ (same (frame_rates (frame_reevaluateCommon _)).1 (frame_rates (frame_reevaluateCommon _)).2
      (fun c => ⟨(reevaluateCommon_reads _).1 c, (reevaluateCommon_reads _).2.1 c⟩) hs)
  clear s hs := h.custodyReset s hs
  startTest s inject hs := by
    unfold State.startTest
    rw [verifyGroups_eq]
    exact hs
  startPass s _ hs := startPass hs
  testFree s _ _ hs := by
    obtain ⟨_, _, _, _, _, _, _, _, heq⟩ := testFreeSlot_eq s s.sweepPosition
    rw [heq]
    exact hs
  moveOn s began _ _ hs := by
    obtain ⟨_, _, _, _, heq⟩ := afterVisit_eq began s
    rw [heq]
    exact hs
  grace s b hb hs := h.expireGrace s b hb hs
  pulse s b hb hs := h.countPulse s b hb hs
  lost s b hb hs := h.rearmLost s b hb hs
  stall s _ hb hs := modifyBoard hs (h.stall _ _ _ _ _ hb (ahead_stallLimit s))

/-- Q that the steps of score keep, and that no threshold bears on, is kept by every operation. -/
theorem opKept_of_scoreless (D : Bd → Prop) (hcharged : ∀ th now x l w, Q th now x l → Q th now (x.charged w) l)
    (hpaid : ∀ th now x l n, Q th now x l → Q th now { x with score := n } l)
    (hth : ∀ th th' now x l, Q th now x l → Q th' now x l) : OpKept (State.EachBoard Q D) :=
  h.opKept D (fun s b k hs => (h.verdictKept _).charge s b k (modifyBoard hs (hcharged _ _ _ _ _)) hs)
    (fun s b hs => (h.verdictKept _).credit s b (modifyBoard hs (hpaid _ _ _ _ _)))
    fun _ _ _ hs => (h.verdictKept _).afterSetgroup _
      ((h.verdictKept _).reevaluateBoards allBoards _ fun c hc => hth _ _ _ _ _ (hs c hc))

end BoardKept

end Sys2Proof.Machine

/-! SUPPORT. The latency estimates, the charges counts, the scores and the timers of the boards, and the statements about
them. -/

namespace Sys2Proof.Machine

/-! ## What the link, the pins and the resets leave of the boards -/

section Steps

variable {Q : Thresholds → Time → Board → Line → Prop} {D : Bd → Prop}

theorem eachBoard_outside {s t : State} (h : Outside s t) (hs : s.EachBoard Q D) : t.EachBoard Q D := by
  obtain ⟨_, _, _, _, _, _, _, rfl⟩ := h
  exact hs

theorem eachBoard_releaseReset {s : State} (hs : s.EachBoard Q D) : s.releaseReset.EachBoard Q D := by
  unfold State.releaseReset
  split <;> exact hs

theorem eachBoard_pinReset (s : State) (h : Q State.held.effThresholds 0 Board.reset Line.reset) : s.pinReset.EachBoard Q D := by
  intro b _
  rw [s.pinReset_board, s.pinReset_line]
  exact h

theorem eachBoard_tick (htick : ∀ th now now' x l, Q th now x l → Q th now' x l) {s : State} (hs : s.EachBoard Q D) :
    s.tick.EachBoard Q D :=
  fun b hb => htick _ _ _ _ _ (hs b hb)

/-- A property of the boards that every operation keeps, and the clock does not bear on, is kept by every step. -/
theorem eachBoard_step (h : OpKept (State.EachBoard Q fun _ => True)) (hreset : Q State.held.effThresholds 0 Board.reset Line.reset)
    (htick : ∀ th now now' x l, Q th now x l → Q th now' x l) {s t : State} (hs : s.EachBoard Q fun _ => True)
    (ht : step s = .next t) : t.EachBoard Q fun _ => True :=
  h.step (fun _ _ => eachBoard_outside) (fun s => eachBoard_pinReset s hreset) (fun _ => eachBoard_releaseReset)
    (fun s hs => eachBoard_tick htick (h.endTu s hs)) hs ht

end Steps

/-! ## Estimates and charges counts (R64, R68, R75) -/

/-- A board's estimate and charges count are within their widths (R64, R75). -/
def Board.Fits (x : Board) : Prop := x.latency ≤ 1048560 ∧ x.charges ≤ 65535

theorem boardKept_fits : BoardKept fun _ _ x _ => x.Fits where
  granted _ _ _ _ _ _ _ hx := hx
  pending _ _ _ _ _ hx := hx
  doubtful _ _ _ _ _ _ hx := hx
  live _ _ _ _ _ _ hx := hx
  warmed _ _ _ _ _ _ hseed _ _ := ⟨hseed, Nat.zero_le _⟩
  emptied _ _ _ _ _ _ hseed _ _ := ⟨hseed, Nat.zero_le _⟩
  retired _ _ _ _ _ hx := hx
  absolved _ _ _ _ _ hx := hx
  baseline _ _ _ _ _ hx := hx
  damaged _ _ _ _ hx := hx
  lodged _ _ _ _ _ _ _ hx := hx
  left _ _ _ _ _ _ _ _ _ hx := hx
  sample _ _ _ _ _ g hn hx := ⟨updatedLatency_le_cap hx.1 hn g, hx.2⟩
  releases _ _ _ _ hx := hx
  progressed _ _ _ _ _ _ hx := hx
  graced _ _ _ _ _ _ _ _ _ hx := hx
  pulse _ _ _ _ _ _ _ hx := hx
  lost _ _ _ _ _ _ _ hx := hx
  stall _ _ _ _ _ _ _ hx := hx

theorem opKept_fits : OpKept (State.EachBoard (fun _ _ x _ => x.Fits) fun _ => True) :=
  boardKept_fits.opKept_of_scoreless _ (fun _ _ _ _ _ hx => ⟨hx.1, Nat.min_le_left _ _⟩) (fun _ _ _ _ _ hx => hx)
    fun _ _ _ _ _ hx => hx

theorem step_keeps_estimateWf {s t : State} (hs : s.EstimateWf) (ht : step s = .next t) : t.EstimateWf := by
  have h := eachBoard_step opKept_fits ⟨by decide, by decide⟩ (fun _ _ _ _ _ hx => hx) (fun b _ => hs b) ht
  exact fun b => h b trivial

/-! ## Timers (R75, R102, R105, R108, R124) -/

theorem boardKept_timers : BoardKept fun _ _ x l => x.TimersWf l where
  granted _ _ x l st d hst hx := by
    unfold Board.TimersWf at *
    rcases hst with rfl | rfl <;> simp [Board.granted, BoardState.isDown]
  pending _ _ _ _ _ hx := hx
  doubtful _ _ x l hl _ hx := by
    unfold Board.TimersWf at *
    simp_all [BoardState.isDown, BoardState.isActive]
  live _ _ x l hl _ hx := by
    unfold Board.TimersWf at *
    simp_all [BoardState.isDown, BoardState.isActive]
  warmed _ _ _ _ _ _ _ _ _ := by
    simp [Board.TimersWf, Board.warmed, BoardState.isDown, Line.reset]
  emptied _ _ _ _ _ _ _ _ _ := by
    simp [Board.TimersWf, Board.warmed, BoardState.isDown, Line.reset]
  retired _ _ x l hout hx := by
    simp [Board.TimersWf, Board.retired, BoardState.isDown]
  absolved _ _ x l hl hx := by
    unfold Board.TimersWf at *
    rcases hl with hl | hl <;> simp_all [BoardState.isDown, BoardState.isActive]
  baseline _ _ _ _ _ hx := hx
  damaged _ _ _ _ hx := hx
  lodged _ _ x l e hb _ hx := by
    obtain ⟨hgrace, hstall, hrest⟩ := hx
    refine ⟨hgrace, ?_, hrest⟩
    by_cases hc : x.outstanding = 0 ∧ (x.state = .live ∨ x.state = .doubtful)
    · simp [Board.lodged, hc]
    · simp only [Board.lodged, if_neg hc, hstall]
      grind
  left _ _ x l o d st ho hst hx := by
    obtain ⟨hgrace, hstall, hverdict, hlost, hrest⟩ := hx
    have hstall' : (x.left o d st).stallExpiry.isSome
        = (decide (x.state = .live ∨ x.state = .doubtful) && decide (0 < o)) := by
      by_cases ho0 : o = 0
      · simp [Board.left, ho0]
      · simp only [Board.left, if_neg ho0, hstall]
        have : 0 < o ∧ 0 < x.outstanding := by omega
        simp [this]
    rcases hst with rfl | ⟨hsilent, rfl⟩
    · exact ⟨hgrace, hstall', hverdict, hlost, hrest⟩
    · simp_all [Board.TimersWf, Board.left, BoardState.isDown, BoardState.isActive]
  sample _ _ _ _ _ _ _ hx := hx
  releases _ _ _ _ hx := hx
  progressed _ _ x l e _ hx := by
    obtain ⟨hgrace, hstall, hrest⟩ := hx
    refine ⟨hgrace, ?_, hrest⟩
    by_cases hc : (x.state = .live ∨ x.state = .doubtful) ∧ 0 < x.outstanding
    · simp [Board.progressed, hc]
    · simpa only [Board.progressed, if_neg hc] using hstall
  graced _ _ x l e f hb _ _ hx := by
    obtain ⟨hgrace, hstall, hverdict, hlost, _, hheard, hline⟩ := hx
    by_cases ho : 0 < x.outstanding <;> by_cases hh : x.heard = true <;>
      simp_all [Board.TimersWf, Board.graced, BoardState.isDown, BoardState.isActive]
  pulse _ _ x l e hb _ hx := by
    obtain ⟨hgrace, hstall, hverdict, -⟩ := hx
    exact ⟨hgrace, hstall, hverdict, fun _ => hb, fun _ => rfl, fun _ => rfl, fun _ => ⟨rfl, hb⟩⟩
  lost _ _ x l e hb _ hx := by
    obtain ⟨hgrace, hstall, hverdict, hlost, -⟩ := hx
    exact ⟨hgrace, hstall, hverdict, fun _ => hlost hb, fun _ => rfl, fun _ => rfl, fun ha => absurd ha Bool.false_ne_true⟩
  stall _ _ x l e hb _ hx := by
    obtain ⟨hgrace, hstall, hrest⟩ := hx
    exact ⟨hgrace, by rw [← hstall, hb]; rfl, hrest⟩

theorem opKept_timers : OpKept (State.EachBoard (fun _ _ x l => x.TimersWf l) fun _ => True) :=
  boardKept_timers.opKept_of_scoreless _ (fun _ _ _ _ _ hx => hx) (fun _ _ _ _ _ hx => hx) fun _ _ _ _ _ hx => hx

theorem eachBoard_timersWf (s : State) : s.EachBoard (fun _ _ x l => x.TimersWf l) (fun _ => True) ↔ s.TimersWf :=
  ⟨fun h b => h b trivial, fun h b _ => h b⟩

theorem timersWf_reset : Board.reset.TimersWf Line.reset := by
  simp [Board.TimersWf, Board.reset, Line.reset, BoardState.isDown]

theorem step_keeps_timersWf {s t : State} (hs : s.TimersWf) (ht : step s = .next t) : t.TimersWf := by
  rw [← eachBoard_timersWf] at hs ⊢
  exact eachBoard_step opKept_timers timersWf_reset (fun _ _ _ _ _ hx => hx) hs ht

/-! ## Scores (R81, R96, R99, R100) -/

/-- A board's score agrees with its state under thresholds that are legal. -/
def Board.ScoreFits (th : Thresholds) (x : Board) : Prop :=
  ThresholdsLegal th ∧ x.ScoreWf th.alert.toNat th.hysteresis.toNat

/-- What of a board's score no threshold bears on, under thresholds that are legal. -/
def Board.ScoreBound (th : Thresholds) (x : Board) : Prop :=
  ThresholdsLegal th ∧ x.score ≤ 4095 ∧ (x.state = .warming → x.score = 0)

theorem eachBoard_scoreWf (s : State) : s.EachBoard (fun th _ x _ => x.ScoreFits th) (fun _ => True) ↔ s.ScoreWf :=
  ⟨fun h => ⟨(h 0 trivial).1, fun b => (h b trivial).2⟩, fun h b _ => ⟨h.1, h.2 b⟩⟩

theorem Board.ScoreFits.bound {th : Thresholds} {x : Board} (h : x.ScoreFits th) : x.ScoreBound th :=
  ⟨h.1, h.2.1, h.2.2.1⟩

theorem boardKept_score : BoardKept fun th _ x _ => x.ScoreFits th where
  granted _ _ x _ st _ hst hx := by
    obtain ⟨hth, hcap, -⟩ := hx
    rcases hst with rfl | rfl <;> exact ⟨hth, hcap, by simp [Board.granted]⟩
  pending _ _ _ _ _ hx := hx
  doubtful _ _ x _ _ ha hx := ⟨hx.1, hx.2.1, by simp; omega⟩
  live th _ x _ hd hlow hx := ⟨hx.1, hx.2.1, by simp; omega⟩
  warmed _ _ _ _ _ _ _ _ hx := ⟨hx.1, by simp [Board.ScoreWf, Board.warmed]⟩
  emptied _ _ _ _ _ _ _ _ hx := ⟨hx.1, by simp [Board.ScoreWf, Board.warmed]⟩
  retired _ _ x _ _ hx := ⟨hx.1, hx.2.1, by simp [Board.retired]⟩
  absolved _ _ x _ _ hx := by
    obtain ⟨hth, -⟩ := hx
    have hpos := hth.1
    exact ⟨hth, by simp [Board.ScoreWf]; omega⟩
  baseline _ _ _ _ _ hx := hx
  damaged _ _ _ _ hx := hx
  lodged _ _ _ _ _ _ _ hx := hx
  left _ _ x l o d st ho hst hx := by
    rcases hst with rfl | ⟨-, rfl⟩
    · exact hx
    · exact ⟨hx.1, hx.2.1, by simp [Board.left]⟩
  sample _ _ _ _ _ _ _ hx := hx
  releases _ _ _ _ hx := hx
  progressed _ _ _ _ _ _ hx := hx
  graced th _ x _ _ _ hb _ _ hx := by
    obtain ⟨hth, hcap, hwarm, -⟩ := hx
    have hpos := hth.1
    have h0 := hwarm hb
    exact ⟨hth, hcap, by simp [Board.graced]; omega⟩
  pulse _ _ _ _ _ _ _ hx := hx
  lost _ _ _ _ _ _ _ hx := hx
  stall _ _ _ _ _ _ _ hx := hx

theorem boardKept_scoreBound : BoardKept fun th _ x _ => x.ScoreBound th where
  granted _ _ x _ st _ hst hx := by
    rcases hst with rfl | rfl <;> exact ⟨hx.1, hx.2.1, by simp [Board.granted]⟩
  pending _ _ _ _ _ hx := hx
  doubtful _ _ x _ _ _ hx := ⟨hx.1, hx.2.1, by simp⟩
  live _ _ x _ _ _ hx := ⟨hx.1, hx.2.1, by simp⟩
  warmed _ _ _ _ _ _ _ _ hx := ⟨hx.1, by simp [Board.warmed]⟩
  emptied _ _ _ _ _ _ _ _ hx := ⟨hx.1, by simp [Board.warmed]⟩
  retired _ _ x _ _ hx := ⟨hx.1, hx.2.1, by simp [Board.retired]⟩
  absolved _ _ x _ _ hx := ⟨hx.1, by simp⟩
  baseline _ _ _ _ _ hx := hx
  damaged _ _ _ _ hx := hx
  lodged _ _ _ _ _ _ _ hx := hx
  left _ _ x l o d st ho hst hx := by
    rcases hst with rfl | ⟨-, rfl⟩
    · exact hx
    · exact ⟨hx.1, hx.2.1, by simp [Board.left]⟩
  sample _ _ _ _ _ _ _ hx := hx
  releases _ _ _ _ hx := hx
  progressed _ _ _ _ _ _ hx := hx
  graced _ _ x _ _ _ _ _ _ hx := ⟨hx.1, hx.2.1, by simp [Board.graced]⟩
  pulse _ _ _ _ _ _ _ hx := hx
  lost _ _ _ _ _ _ _ hx := hx
  stall _ _ _ _ _ _ _ hx := hx

/-! ## The steps of score in charges, credits and re-evaluations (R97, R98, R100) -/

/-- Every board of D agrees with its score. -/
def State.ScoresAgree (s : State) (D : Bd → Prop) : Prop := s.EachBoard (fun th _ x _ => x.ScoreFits th) D

/-- Every board's score is within what no threshold bears on. -/
def State.ScoresBounded (s : State) : Prop := s.EachBoard (fun th _ x _ => x.ScoreBound th) fun _ => True

theorem scoreVerdictKept (D : Bd → Prop) : VerdictKept fun s : State => s.ScoresAgree D := boardKept_score.verdictKept D

theorem boundVerdictKept : VerdictKept State.ScoresBounded := boardKept_scoreBound.verdictKept _

section ScoreSteps

variable {s t : State} {b : Bd} {D : Bd → Prop}

/-- Only board b's record has changed: the boards of D agree with their scores when the others did and b does now. -/
theorem scoresAgree_of_change (hth : t.effThresholds = s.effThresholds)
    (hothers : ∀ c, c ≠ b → t.board c = s.board c) (hs : s.ScoresAgree fun c => D c ∧ c ≠ b)
    (hb : (t.board b).ScoreFits s.effThresholds) : t.ScoresAgree D := by
  intro c hc
  show (t.board c).ScoreFits t.effThresholds
  rw [hth]
  by_cases hcb : c = b
  · exact hcb ▸ hb
  · rw [hothers c hcb]
    exact hs c ⟨hc, hcb⟩

/-- Moving board b to a state leaves every other board's agreement, and b's is that of its score with the new state. -/
theorem setBoardState_scoresAgree (st : BoardState) (hs : s.ScoresAgree fun c => D c ∧ c ≠ b)
    (hb : ({ s.board b with state := st } : Board).ScoreFits s.effThresholds) : (s.setBoardState b st).ScoresAgree D :=
  scoresAgree_of_change (BoardKept.frame_rates (frame_setBoardState s b st)).1 (fun c hc => by simp [hc]) hs (by simpa using hb)

/-- A LIVE board at A or above becomes DOUBTFUL, and its score then agrees with its state (R97 step 2, R100). -/
theorem doubtIfAlerted_scoresAgree (i : DoubtItem) (hs : s.ScoresAgree fun c => D c ∧ c ≠ b) (hbound : s.ScoresBounded)
    (hdoubtful : (s.board b).state = .doubtful → s.levelA ≤ (s.board b).score + s.levelH) :
    (s.doubtIfAlerted b i).ScoresAgree D := by
  obtain ⟨hth, hcap, hwarm⟩ := hbound b trivial
  unfold State.doubtIfAlerted
  split
  next hb =>
    have hle : s.levelA ≤ (s.board b).score := hb.2
    refine (scoreVerdictKept D).afterExit s _ (setBoardState_scoresAgree .doubtful hs ⟨hth, hcap, by simp, by simp, ?_⟩)
    exact fun _ => Nat.le_add_right_of_le hle
  next hb =>
    refine scoresAgree_of_change rfl (fun _ _ => rfl) hs ⟨hth, hcap, hwarm, fun hl => ?_, hdoubtful⟩
    exact Nat.lt_of_not_le fun hle => hb ⟨hl, hle⟩

/-- A DOUBTFUL board below A - H becomes LIVE, and its score then agrees with its state (R98 step 3, R100). -/
theorem backToLive_scoresAgree (hs : s.ScoresAgree fun c => D c ∧ c ≠ b) (hbound : s.ScoresBounded)
    (hb : s.returnsToLive b = true) : (s.backToLive b).ScoresAgree D := by
  obtain ⟨hth, hcap, -⟩ := hbound b trivial
  have hlow : (s.board b).score + s.levelH < s.levelA := by
    simp only [State.returnsToLive, decide_eq_true_eq] at hb
    exact hb.2
  refine (scoreVerdictKept D).afterExit s _ (setBoardState_scoresAgree .live hs ⟨hth, hcap, by simp, fun _ => ?_, by simp⟩)
  exact lt_of_le_of_lt (Nat.le_add_right _ _) hlow

/-- A DOUBTFUL board that does not return to LIVE stands at A - H or above. -/
theorem le_of_not_returnsToLive (hb : ¬ s.returnsToLive b = true) (hd : (s.board b).state = .doubtful) :
    s.levelA ≤ (s.board b).score + s.levelH := by
  simp only [State.returnsToLive, decide_eq_true_eq, not_and] at hb
  exact Nat.le_of_not_lt (hb hd)

/-- Leaving the pending set changes no state, no score and no threshold. -/
theorem leavePendingIfBelow_reads (s : State) (b c : Bd) :
    ((s.leavePendingIfBelow b).board c).state = (s.board c).state
      ∧ ((s.leavePendingIfBelow b).board c).score = (s.board c).score
      ∧ (s.leavePendingIfBelow b).effThresholds = s.effThresholds := by
  unfold State.leavePendingIfBelow
  split
  · by_cases hc : c = b <;> simp [State.clearPending, hc]
  · exact ⟨rfl, rfl, rfl⟩

end ScoreSteps

theorem charge_keeps_scores {s : State} (b : Bd) (k : Evidence) (hs : s.ScoresAgree fun _ => True) :
    (s.charge b k).ScoresAgree fun _ => True := by
  obtain ⟨hth, hscore⟩ := hs b trivial
  have hothers : (s.raiseScore b k).ScoresAgree fun c => True ∧ c ≠ b := by
    intro c hc
    simpa [State.raiseScore, hc.2] using hs c trivial
  have hraised : ((s.raiseScore b k).board b).score = min 4095 ((s.board b).score + Weights.of s.effWeights k)
      ∧ ((s.raiseScore b k).board b).state = (s.board b).state := by simp [State.raiseScore, Board.charged]
  have hcharge (hst : (s.board b).state = .live ∨ (s.board b).state = .doubtful) :
      (s.applyCharge b k).ScoresAgree fun _ => True := by
    have hbound : (s.raiseScore b k).ScoresBounded := by
      intro c _
      by_cases hcb : c = b
      · subst hcb
        refine ⟨hth, by omega, fun hw => ?_⟩
        rcases hst with hst | hst <;> simp [hraised.2, hst] at hw
      · exact (hothers c ⟨trivial, hcb⟩).bound
    have hdoubtful : ((s.raiseScore b k).board b).state = .doubtful →
        s.levelA ≤ ((s.raiseScore b k).board b).score + s.levelH := by
      intro hd
      have hlow : s.levelA ≤ (s.board b).score + s.levelH := hscore.2.2.2 (hraised.2 ▸ hd)
      have hA : s.levelA ≤ 4094 := hth.2.1
      rw [hraised.1]
      omega
    have halerted := doubtIfAlerted_scoresAgree (.item k) hothers hbound hdoubtful
    exact (scoreVerdictKept _).latchIfHeartbeat _ b k ((scoreVerdictKept _).requestIfDue _ b halerted)
  unfold State.charge
  split
  case h_1 hl => exact hcharge (.inl hl)
  case h_2 hd => exact hcharge (.inr hd)
  all_goals exact hs

theorem credit_keeps_scores {s : State} (b : Bd) (hs : s.ScoresAgree fun _ => True) :
    (s.credit b).ScoresAgree fun _ => True := by
  obtain ⟨hth, hcap, hwarm, hlive, -⟩ := hs b trivial
  have hpaid : ((s.payDown b).board b).score ≤ (s.board b).score
      ∧ ((s.payDown b).board b).state = (s.board b).state := by simp [State.payDown]
  have hothers : (s.payDown b).ScoresAgree fun c => True ∧ c ≠ b := by
    intro c hc
    simpa [State.payDown, hc.2] using hs c trivial
  have hbound : (s.payDown b).ScoresBounded := by
    intro c _
    by_cases hcb : c = b
    · subst hcb
      refine ⟨hth, by omega, fun hw => ?_⟩
      have := hwarm (hpaid.2 ▸ hw)
      omega
    · exact (hothers c ⟨trivial, hcb⟩).bound
  let t := (s.payDown b).leavePendingIfBelow b
  obtain ⟨hstate, hscore, hrates⟩ := leavePendingIfBelow_reads (s.payDown b) b b
  have htothers : t.ScoresAgree fun c => True ∧ c ≠ b := (scoreVerdictKept _).leavePendingIfBelow _ b hothers
  have htbound : t.ScoresBounded := boundVerdictKept.leavePendingIfBelow _ b hbound
  show (t.settleCredit b).ScoresAgree _
  unfold State.settleCredit
  split
  next hb => exact backToLive_scoresAgree htothers htbound hb
  next hb =>
    obtain ⟨htth, htcap, htwarm⟩ := htbound b trivial
    refine scoresAgree_of_change rfl (fun _ _ => rfl) htothers
      ⟨htth, htcap, htwarm, fun hl => ?_, le_of_not_returnsToLive hb⟩
    have hlt : (s.board b).score < s.levelA := hlive (by rw [← hpaid.2, ← hstate]; exact hl)
    have hle : (t.board b).score ≤ (s.board b).score := by
      show ((s.payDown b).leavePendingIfBelow b |>.board b).score ≤ _
      omega
    have hA : t.levelA = s.levelA := congrArg (fun th : Thresholds => th.alert.toNat) hrates
    show (t.board b).score < t.levelA
    omega

/-- Re-evaluating board b makes its score agree with its state, and keeps the agreement of the boards of D (R100). -/
theorem reevaluateBoard_scoresAgree {s : State} {b : Bd} {D : Bd → Prop} (hs : s.ScoresAgree fun c => D c ∧ c ≠ b)
    (hbound : s.ScoresBounded) : (s.reevaluateBoard b).ScoresAgree D := by
  obtain ⟨hth, hcap, hwarm⟩ := hbound b trivial
  unfold State.reevaluateBoard
  split
  case h_1 hl =>
    exact (scoreVerdictKept D).requestIfDue _ b (doubtIfAlerted_scoresAgree _ hs hbound (by simp [hl]))
  case h_2 hd =>
    let t := s.leavePendingIfBelow b
    have hts : t.ScoresAgree fun c => D c ∧ c ≠ b := (scoreVerdictKept _).leavePendingIfBelow s b hs
    have htbound : t.ScoresBounded := boundVerdictKept.leavePendingIfBelow s b hbound
    have htd : (t.board b).state = .doubtful := (leavePendingIfBelow_reads s b b).1.trans hd
    show (t.reevaluateDoubtful b).ScoresAgree D
    unfold State.reevaluateDoubtful
    split
    next hb => exact backToLive_scoresAgree hts htbound hb
    next hb =>
      obtain ⟨htth, htcap, htwarm⟩ := htbound b trivial
      refine (scoreVerdictKept D).requestIfDue _ b (scoresAgree_of_change rfl (fun _ _ => rfl) hts
        ⟨htth, htcap, htwarm, by simp [htd], le_of_not_returnsToLive hb⟩)
  all_goals
    rename_i hst
    exact scoresAgree_of_change rfl (fun _ _ => rfl) hs ⟨hth, hcap, hwarm, by simp [hst], by simp [hst]⟩

/-- Re-evaluating boards one after another makes each of them agree with its score. -/
theorem reevaluateBoards_scoresAgree (bs : List Bd) {s : State} {D : Bd → Prop} (hs : s.ScoresAgree D)
    (hbound : s.ScoresBounded) : (bs.foldl State.reevaluateBoard s).ScoresAgree fun c => D c ∨ c ∈ bs := by
  induction bs generalizing s D with
  | nil => simpa using hs
  | cons b bs ih =>
    have hb : (s.reevaluateBoard b).ScoresAgree fun c => D c ∨ c = b :=
      reevaluateBoard_scoresAgree (fun c hc => hs c (hc.1.resolve_right hc.2)) hbound
    simpa [or_assoc] using ih hb (boundVerdictKept.reevaluateBoard s b hbound)

/-- The checks of a THRESHOLDS SETGROUP are those of legal thresholds (R100). -/
theorem thresholdsLegal_of_check {f : Thresholds} (h : checkThresholds f = none) : ThresholdsLegal f := by
  simp only [checkThresholds, firstFailure, firstOffending, inRange, List.find?] at h
  unfold ThresholdsLegal
  grind

theorem thresholds_keep_scores {s : State} (f : Thresholds) (hf : checkThresholds f = none)
    (hs : s.ScoresAgree fun _ => True) : (writeThresholds f s).ScoresAgree fun _ => True := by
  let t : State := { s.modifyGroups fun g => { g with thresholds := .written f } with effThresholds := f }
  have hbound : t.ScoresBounded := fun c _ => ⟨thresholdsLegal_of_check hf, (hs c trivial).bound.2⟩
  have hnone : t.ScoresAgree fun _ => False := fun _ hc => hc.elim
  have hall := reevaluateBoards_scoresAgree allBoards hnone hbound
  exact (scoreVerdictKept _).afterSetgroup _ fun c _ => hall c (.inr (mem_allBoards c))

theorem opKept_score : OpKept fun s : State => s.ScoresAgree fun _ => True :=
  boardKept_score.opKept _ (fun _ b k hs => charge_keeps_scores b k hs) (fun _ b hs => credit_keeps_scores b hs)
    fun _ f hf hs => thresholds_keep_scores f hf hs

theorem step_keeps_scoreWf {s t : State} (hs : s.ScoreWf) (ht : step s = .next t) : t.ScoreWf := by
  rw [← eachBoard_scoreWf] at hs ⊢
  refine eachBoard_step opKept_score ?_ (fun _ _ _ _ _ hx => hx) hs ht
  unfold Board.ScoreFits ThresholdsLegal Board.ScoreWf
  decide

/-- Settles O54: scores, estimates and charges counts are properties of the boards one by one that every operation keeps. -/
theorem scoresAndEstimatesKept : Obligations.ScoresAndEstimatesKept :=
  ⟨fun _ _ => step_keeps_scoreWf, fun _ _ => step_keeps_estimateWf⟩

end Sys2Proof.Machine

/-! SUPPORT. The sweep's settings and times, that nothing of the part is ever late, and the statement about the timers. -/

namespace Sys2Proof.Machine

/-! ## What the Verdict Unit's work leaves of the sweep -/

/-- t stands to s as after work that can do no more to the sweep than stop it with the entry to HALTED. -/
def SweepStops (s t : State) : Prop :=
  VerdictFrame s t ∧ (t.halted = s.halted ∧ t.sweepRunning = s.sweepRunning ∨ t.halted = true ∧ t.sweepRunning = false)

theorem SweepStops.refl (s : State) : SweepStops s s := ⟨VerdictFrame.refl s, .inl ⟨rfl, rfl⟩⟩

theorem SweepStops.trans {s t u : State} (h : SweepStops s t) (k : SweepStops t u) : SweepStops s u := by
  refine ⟨h.1.trans k.1, ?_⟩
  rcases k.2 with ⟨hh, hr⟩ | hk
  · rw [hh, hr]
    exact h.2
  · exact .inr hk

theorem sweepStops_reportState (s : State) (old new : BoardState) : SweepStops s (s.reportState old new) := by
  refine ⟨frame_reportState s old new, .inl ?_⟩
  unfold State.reportState State.reevaluateCommon
  dsimp only
  split_ifs <;> exact ⟨rfl, rfl⟩

theorem sweepStops_setBoardState (s : State) (b : Bd) (st : BoardState) : SweepStops s (s.setBoardState b st) :=
  SweepStops.trans ⟨frame_modifyBoard s b _, .inl ⟨rfl, rfl⟩⟩ (sweepStops_reportState _ _ _)

theorem sweepStops_offer (s : State) (e : WatchEvent) (n : Nat) (b : Bd) (k : Key) (w : BitVec 4) :
    SweepStops s (s.offer e n b k w) := by
  rw [offer_eq]
  exact ⟨rfl, .inl ⟨rfl, rfl⟩⟩

theorem sweepStops_holdWalk (b : Bd) (l : List Nat) (s : State) : SweepStops s (State.holdWalk b l s).1 := by
  induction l generalizing s with
  | nil => exact SweepStops.refl s
  | cons n l ih =>
    unfold State.holdWalk
    split
    · split
      · split
        · exact (sweepStops_offer s _ _ _ _ _).trans (ih _)
        · exact SweepStops.trans ⟨frame_damageRecord s n b _ _, .inl ⟨rfl, rfl⟩⟩ (ih _)
      all_goals exact ih s
    · exact ⟨frame_enterHalted s _, .inr ⟨rfl, rfl⟩⟩

theorem sweepStops_grantVerdict (s : State) (b : Bd) (p : VerdictPath) : SweepStops s (s.grantVerdict b p) := by
  let t := ((s.silence b).reportState (s.board b).state .silent).latchVerdict b p
  have hsilenced : SweepStops s t :=
    (SweepStops.trans ⟨frame_silence s b, .inl ⟨rfl, rfl⟩⟩ (sweepStops_reportState _ _ _)).trans ⟨rfl, .inl ⟨rfl, rfl⟩⟩
  have hwalk := sweepStops_holdWalk b (t.list b) t
  refine hsilenced.trans ?_
  show SweepStops t (t.holdRecords b)
  unfold State.holdRecords
  dsimp only
  split_ifs
  · exact hwalk
  · exact hwalk.trans ⟨frame_enterHalted _ _, .inr ⟨rfl, rfl⟩⟩
  · exact hwalk.trans (sweepStops_setBoardState _ b _)
  · exact hwalk

/-- A property that such work keeps is kept by every operation of the Verdict Unit. -/
theorem verdictKept_of_sweepStops {P : State → Prop} (h : ∀ s t, SweepStops s t → P s → P t) : VerdictKept P where
  latch s _ := h s _ ⟨rfl, .inl ⟨rfl, rfl⟩⟩
  grant s b p _ _ := h s _ (sweepStops_grantVerdict s b p)
  withhold s _ _ _ := h s _ ⟨rfl, .inl ⟨rfl, rfl⟩⟩
  record s _ _ _ := h s _ ⟨rfl, .inl ⟨rfl, rfl⟩⟩
  clear s _ := h s _ ⟨rfl, .inl ⟨rfl, rfl⟩⟩
  doubt s b _ _ := h s _ (sweepStops_setBoardState s b _)
  live s b _ _ := h s _ (sweepStops_setBoardState s b _)

theorem sweepStops_enterWarming (s : State) (b : Bd) : SweepStops s (s.enterWarming b) :=
  SweepStops.trans ⟨(frame_modifyBoard s b _).trans (frame_modifyLine _ b _), .inl ⟨rfl, rfl⟩⟩ (sweepStops_reportState _ _ _)

theorem sweepStops_leaveService (s : State) (b : Bd) : SweepStops s (s.leaveService b) :=
  SweepStops.trans ⟨(frame_modifyBoard s b _).trans (frame_modifyLine _ b _), .inl ⟨rfl, rfl⟩⟩ (sweepStops_reportState _ _ _)

theorem sweepStops_absolveBoard (s : State) (b : Bd) : SweepStops s (s.absolveBoard b) :=
  SweepStops.trans ⟨(frame_modifyBoard s b _).trans (frame_clearPending _ b), .inl ⟨rfl, rfl⟩⟩ (sweepStops_setBoardState _ b _)

/-! ## Times at or after now (R46) -/

theorem past_self (t : Time) : past t t = true := by simp [past]

/-- A timer set ahead lies after now. -/
theorem Ahead.past {now e : Time} (h : Ahead now e) : past e now = true ∧ e ≠ now := by
  obtain ⟨n, hpos, hlt, rfl⟩ := h
  constructor
  · simp only [Machine.past, decide_eq_true_eq]
    bv_omega
  · bv_omega

/-- A time at or after now that is not now lies at or after the next TU. -/
theorem past_succ {now e : Time} (h : past e now = true) (hne : e ≠ now) : past e (now + 1) = true := by
  simp only [past, decide_eq_true_eq] at h ⊢
  bv_omega

/-- A time at or after now that the clock has reached is now. -/
theorem eq_now_of_past {now e : Time} (h : past e now = true) (hdue : past now e = true) : e = now := by
  simp only [past, decide_eq_true_eq] at h hdue
  bv_omega

/-! ## The sweep's settings and the TU of its next event (R47 to R51, R57, R153) -/

/-- While the sweep is RUNNING its next event lies at or after now (R49). -/
def State.SweepOnTime (s : State) : Prop := s.sweepRunning = true → past s.nextSweepTime s.clock = true

/-- The sweep's settings are in range and, when that is asked, its next event is not late. -/
def State.SweepTimed (timed : Prop) (s : State) : Prop := s.SweepWf ∧ (timed → s.SweepOnTime)

theorem sweepTimed_of_sweepStops {timed : Prop} {s t : State} (h : SweepStops s t) (hs : s.SweepTimed timed) :
    t.SweepTimed timed := by
  obtain ⟨hframe, hstop⟩ := h
  obtain ⟨⟨hpre, hdiv, hcvpt, hevpt, hpos, hrun⟩, htimed⟩ := hs
  obtain ⟨spre, sdiv, scvpt, -, -, -⟩ := hframe.settings
  obtain ⟨sclock, spass, spos, sevpt⟩ := hframe.sweepSame
  refine ⟨⟨spre ▸ hpre, sdiv ▸ hdiv, scvpt ▸ hcvpt, sevpt ▸ hevpt, spos ▸ hpos, ?_⟩, fun ht hr => ?_⟩
  · rcases hstop with ⟨hh, hr⟩ | ⟨hh, hr⟩ <;> simp [hh, hr, hrun]
  · have hnext : t.nextSweepTime = s.nextSweepTime := by simp only [State.nextSweepTime, spass, spos, sevpt]
    rw [hnext, sclock]
    refine htimed ht ?_
    rcases hstop with ⟨-, hr'⟩ | ⟨-, hr'⟩
    · exact hr' ▸ hr
    · exact absurd (hr'.symm.trans hr) Bool.false_ne_true

theorem sweepVerdictKept (timed : Prop) : VerdictKept (State.SweepTimed timed) :=
  verdictKept_of_sweepStops fun _ _ => sweepTimed_of_sweepStops

theorem settledVpt_le (configured : Nat) (f : Option Nat) (h : configured ≤ 5) : settledVpt configured f ≤ 5 := by
  unfold settledVpt
  split
  · exact h
  · split
    · exact h
    · rename_i m _
      cases hfind : [0, 1, 2, 3, 4].find? fun c => decide (passPeriod c ≤ m / 2) with
      | none => simp
      | some c =>
        have hmem := List.mem_of_find?_eq_some hfind
        simp only [List.mem_cons, List.not_mem_nil, or_false] at hmem
        simp
        omega

/-- The settings a pass start leaves are in range (R48, R51). -/
theorem startPass_settings {s : State} (h : s.SweepWf) :
    s.startPass.prescale ≤ 3 ∧ s.startPass.divider ≤ 3 ∧ s.startPass.configuredVpt ≤ 5 ∧ s.startPass.effectiveVpt ≤ 5 := by
  obtain ⟨hpre, hdiv, hcvpt, -⟩ := h
  let t := s.takeUpTimebase
  have ht : t.prescale ≤ 3 ∧ t.divider ≤ 3 ∧ t.configuredVpt ≤ 5 := by
    simp only [t, State.takeUpTimebase]
    split
    · exact ⟨Nat.min_le_left _ _, Nat.min_le_left _ _, Nat.min_le_left _ _⟩
    · exact ⟨hpre, hdiv, hcvpt⟩
  have hbegin : ∀ u : State, u.beginMemoryPhase.prescale = u.prescale ∧ u.beginMemoryPhase.divider = u.divider
      ∧ u.beginMemoryPhase.configuredVpt = u.configuredVpt ∧ u.beginMemoryPhase.effectiveVpt = u.effectiveVpt := by
    intro u
    unfold State.beginMemoryPhase
    split <;> exact ⟨rfl, rfl, rfl, rfl⟩
  obtain ⟨b1, b2, b3, b4⟩ := hbegin t.verifyGroups.settleRate
  have hverify : t.verifyGroups.prescale = t.prescale ∧ t.verifyGroups.divider = t.divider
      ∧ t.verifyGroups.configuredVpt = t.configuredVpt := by
    rw [verifyGroups_eq]
    exact ⟨rfl, rfl, rfl⟩
  obtain ⟨v1, v2, v3⟩ := hverify
  refine ⟨?_, ?_, ?_, ?_⟩
  · exact (b1.trans v1).trans_le ht.1
  · exact (b2.trans v2).trans_le ht.2.1
  · exact (b3.trans v3).trans_le ht.2.2
  · refine b4.trans_le (settledVpt_le _ _ ?_)
    exact v3.trans_le ht.2.2

/-- The number of TU that a pass in progress has taken at its visits of two slots one after another: the same, or one more. -/
theorem div_visitRate_succ (n : Nat) {v : Nat} (hv : v ≤ 5) :
    (n + 1) / (64 * 2 ^ v) = n / (64 * 2 ^ v) ∨ (n + 1) / (64 * 2 ^ v) = n / (64 * 2 ^ v) + 1 := by
  interval_cases v <;> omega

/-- The pass that ends with slot 8191 is awaited anew one TU after (R49). -/
theorem passPeriod_eq_succ {v : Nat} (hv : v ≤ 5) : 8192 / (64 * 2 ^ v) = 8191 / (64 * 2 ^ v) + 1 := by
  interval_cases v <;> rfl

/-- A visit's next event: its own TU's, or the next. -/
theorem afterVisit_next {s : State} {began : Time} (hvpt : s.effectiveVpt ≤ 5) (hpos : s.sweepPosition < 8192)
    (hpass : s.pass = .running began) (hclock : s.clock = s.visitTime began) :
    (State.afterVisit began s).nextSweepTime = s.clock ∧ s.sweepPosition < 8191
      ∨ (State.afterVisit began s).nextSweepTime = s.clock + 1 := by
  have hclock' : s.clock = began + BitVec.ofNat 32 (s.sweepPosition / (64 * 2 ^ s.effectiveVpt)) := hclock
  by_cases hlt : s.sweepPosition < 8191
  · have hnext : (State.afterVisit began s).nextSweepTime
        = began + BitVec.ofNat 32 ((s.sweepPosition + 1) / (64 * 2 ^ s.effectiveVpt)) := by
      simp [State.afterVisit, hlt, State.nextSweepTime, hpass]
    rw [hnext, hclock']
    rcases div_visitRate_succ s.sweepPosition hvpt with h | h <;> rw [h]
    · exact .inl ⟨rfl, hlt⟩
    · exact .inr (by rw [BitVec.add_assoc, BitVec.ofNat_add]; rfl)
  · have h8191 : s.sweepPosition = 8191 := by omega
    have hnext : (State.afterVisit began s).nextSweepTime = began + BitVec.ofNat 32 (8192 / (64 * 2 ^ s.effectiveVpt)) := by
      unfold State.afterVisit State.nextSweepTime
      dsimp only
      rw [if_neg hlt]
      split <;> rename_i h <;> split at h <;> simp_all
    rw [hnext, hclock', h8191, passPeriod_eq_succ hvpt]
    exact .inr (by rw [BitVec.add_assoc, BitVec.ofNat_add]; rfl)

theorem past_succ_self (t : Time) : past (t + 1) t = true := by
  simp only [past, decide_eq_true_eq]
  bv_omega

theorem afterVisit_position (began : Time) (s : State) :
    (State.afterVisit began s).sweepPosition < 8192 := by
  unfold State.afterVisit
  dsimp only
  split
  · exact Nat.succ_lt_succ ‹_›
  · split <;> exact Nat.zero_lt_succ _

theorem opKept_sweep (timed : Prop) : OpKept (State.SweepTimed timed) where
  aside := by
    rintro s t ⟨_, _, _, _, _, _, _, _, _, rfl⟩ hs
    exact hs
  charge s b k hs := (sweepVerdictKept timed).charge s b k hs hs
  credit s b hs := (sweepVerdictKept timed).credit s b hs
  enrol s b _ hs := (sweepVerdictKept timed).afterExit s _ (sweepTimed_of_sweepStops (sweepStops_enterWarming s b) hs)
  reinstate s b _ hs := (sweepVerdictKept timed).reconsider _ (sweepTimed_of_sweepStops (sweepStops_enterWarming s b) hs)
  retireActive s b _ _ hs := (sweepVerdictKept timed).afterExit s _ (sweepTimed_of_sweepStops (sweepStops_leaveService s b) hs)
  retireDrained s b _ _ hs := (sweepVerdictKept timed).reconsider _ (sweepTimed_of_sweepStops (sweepStops_leaveService s b) hs)
  declare s b _ _ hs := (sweepVerdictKept timed).afterExit s _ (sweepTimed_of_sweepStops (sweepStops_grantVerdict s b _) hs)
  absolve s b _ hs := (sweepVerdictKept timed).afterExit s _ (sweepTimed_of_sweepStops (sweepStops_absolveBoard s b) hs)
  baseline _ _ _ hs := hs
  damage _ _ _ _ _ _ _ _ hs := hs
  halt s w _ hs := sweepTimed_of_sweepStops ⟨frame_enterHalted s w, .inr ⟨rfl, rfl⟩⟩ hs
  create s n rest b p _ _ _ hs := by
    rw [createRecord_eq]
    exact hs
  rewrite _ _ _ _ _ _ _ _ _ _ _ hs := hs
  retire s n hs := by
    obtain ⟨_, _, _, _, _, _, _, _, heq⟩ := retire_eq s n
    rw [heq]
    exact hs
  sample _ _ _ _ hs := hs
  releases _ _ hs := hs
  progress _ _ hs := hs
  group s f _ hs := (sweepVerdictKept timed).afterSetgroup (s.modifyGroups f) hs
  thresholds s f _ hs := (sweepVerdictKept timed).afterSetgroup _ ((sweepVerdictKept timed).reevaluateBoards allBoards _ hs)
  guard s f _ hs := by
    refine (sweepVerdictKept timed).reconsider _ ?_
    unfold State.reevaluateCommon
    split <;> exact hs
  clear s hs := by
    obtain ⟨⟨hpre, hdiv, hcvpt, hevpt, -, -⟩, -⟩ := hs
    exact ⟨⟨hpre, hdiv, hcvpt, hevpt, Nat.zero_lt_succ _, rfl⟩, fun _ _ => past_succ_self s.clock⟩
  startTest s inject hs := by
    unfold State.startTest
    rw [verifyGroups_eq]
    exact hs
  startPass s _ hs := by
    obtain ⟨hwf, -⟩ := hs
    obtain ⟨hpre, hdiv, hcvpt, hevpt⟩ := startPass_settings hwf
    obtain ⟨-, -, -, -, -, hrun⟩ := hwf
    have hsame : s.startPass.sweepPosition = 0 ∧ s.startPass.sweepRunning = s.sweepRunning ∧ s.startPass.halted = s.halted
        ∧ s.startPass.pass = .running s.clock ∧ s.startPass.clock = s.clock := by
      rw [startPass_eq]
      exact ⟨rfl, rfl, rfl, rfl, rfl⟩
    obtain ⟨hpos, hr, hh, hpass, hclock⟩ := hsame
    refine ⟨⟨hpre, hdiv, hcvpt, hevpt, by simp [hpos], by rw [hr, hh, hrun]⟩, fun _ _ => ?_⟩
    simp [State.nextSweepTime, hpass, hpos, hclock, past_self]
  testFree s _ _ hs := by
    obtain ⟨_, _, _, _, _, _, _, _, heq⟩ := testFreeSlot_eq s s.sweepPosition
    rw [heq]
    exact hs
  moveOn s began hpass hclock hs := by
    obtain ⟨⟨hpre, hdiv, hcvpt, hevpt, hpos, hrun⟩, -⟩ := hs
    have hposition := afterVisit_position began s
    have hnext := afterVisit_next hevpt hpos hpass hclock
    obtain ⟨_, _, _, _, heq⟩ := afterVisit_eq began s
    rw [heq] at hposition hnext ⊢
    refine ⟨⟨hpre, hdiv, hcvpt, hevpt, hposition, hrun⟩, fun _ _ => ?_⟩
    rcases hnext with ⟨hnext, -⟩ | hnext <;> rw [hnext]
    · exact past_self s.clock
    · exact past_succ_self s.clock
  grace s b hb hs := by
    rw [expireGrace_eq s b hb]
    exact hs
  pulse _ _ _ hs := hs
  lost _ _ _ hs := hs
  stall _ _ _ hs := hs

/-! ## The sweep's part of the end of a TU (R49, log 7) -/

/-- No event of the sweep is due. -/
def State.SweepIdle (s : State) : Prop := s.passStartDue = false ∧ s.visitDue = false

/-- A bound on the sweep's events that are still due in a TU: a pass start, and a visit of each slot not yet visited. -/
def State.sweepLeft (s : State) : Nat :=
  match s.pass with
  | .awaiting _ => 8193
  | .running _ => 8192 - s.sweepPosition

theorem SweepIdle_of_awaiting {s : State} {due : Time} (hpass : s.pass = .awaiting due) (hne : s.clock ≠ due) : s.SweepIdle := by
  simp [State.SweepIdle, State.passStartDue, State.visitDue, hpass, hne]

/-- A visit that is due leaves fewer slots to visit, or ends the pass, and with it the sweep's events of the TU. -/
theorem sweepVisitEffect_left {s : State} (hs : s.SweepWf) (hdue : s.visitDue = true) :
    (sweepVisitEffect s).sweepLeft < s.sweepLeft ∨ (sweepVisitEffect s).SweepIdle := by
  obtain ⟨-, -, -, hevpt, hpos, -⟩ := hs
  have hpos : s.sweepPosition < 8192 := hpos
  obtain ⟨began, hpass⟩ : ∃ began, s.pass = .running began := by
    cases hp : s.pass
    case awaiting => simp [State.visitDue, hp] at hdue
    case running began => exact ⟨began, rfl⟩
  have hclock : s.clock = s.visitTime began := by
    simp only [State.visitDue, hpass, Bool.and_eq_true, decide_eq_true_eq] at hdue
    exact hdue.2
  obtain ⟨tclock, tpass, tpos, tevpt⟩ := sweepSame_visitSlot s s.sweepPosition
  let t := s.visitSlot s.sweepPosition
  have heq : sweepVisitEffect s = State.afterVisit began t := by simp [sweepVisitEffect, hpass, hdue, sweepVisit_eq, t]
  rw [heq]
  by_cases hlt : s.sweepPosition < 8191
  · left
    have hleft : (State.afterVisit began t).sweepLeft = 8192 - (s.sweepPosition + 1) := by
      simp [State.afterVisit, t, tpos, hlt, State.sweepLeft, tpass, hpass]
    rw [hleft, State.sweepLeft, hpass]
    dsimp only
    omega
  · right
    have hnext := afterVisit_next (s := t) (tevpt ▸ hevpt) (tpos ▸ hpos) (tpass.trans hpass)
      (by rw [State.visitTime, tclock, tpos, tevpt]; exact hclock)
    have hawait : ∃ due, (State.afterVisit began t).pass = .awaiting due ∧ (State.afterVisit began t).clock = t.clock := by
      unfold State.afterVisit
      dsimp only
      rw [if_neg (by rw [tpos]; exact hlt)]
      split <;> exact ⟨_, rfl, rfl⟩
    obtain ⟨due, hpass', hclock'⟩ := hawait
    rcases hnext with ⟨-, hlt'⟩ | hnext
    · exact absurd (tpos ▸ hlt') hlt
    · refine SweepIdle_of_awaiting hpass' ?_
      simp only [State.nextSweepTime, hpass'] at hnext
      rw [hclock', hnext]
      bv_omega

/-- A pass start that is due leaves the visits of the pass. -/
theorem startPass_left (s : State) : s.startPass.sweepLeft = 8192 := by
  rw [startPass_eq]
  rfl

theorem sweepLeft_pos {s : State} (hs : s.SweepWf) : 0 < s.sweepLeft := by
  obtain ⟨-, -, -, -, hpos, -⟩ := hs
  have hpos : s.sweepPosition < 8192 := hpos
  unfold State.sweepLeft
  split <;> omega

theorem sweepWf_iff (s : State) : s.SweepTimed False ↔ s.SweepWf := ⟨fun h => h.1, fun h => ⟨h, False.elim⟩⟩

theorem passStartDue_left {s : State} (hdue : s.passStartDue = true) : s.sweepLeft = 8193 := by
  cases hp : s.pass
  case awaiting => simp [State.sweepLeft, hp]
  case running => simp [State.passStartDue, hp] at hdue

/-- The sweep's part of the end of a TU takes every event that is due: with enough rounds none is left. -/
theorem sweepOut_idle_after (k : Nat) {s : State} (hs : s.SweepWf) (hk : s.sweepLeft ≤ k) : (State.sweepOut k s).SweepIdle := by
  induction k generalizing s with
  | zero => exact absurd (sweepLeft_pos hs) (by omega)
  | succ k ih =>
    unfold State.sweepOut
    split
    next hp =>
      have hstart : passStartEffect s = s.startPass := by simp [passStartEffect, hp]
      have hleft := passStartDue_left hp
      rw [hstart]
      refine ih ((sweepWf_iff _).1 ((opKept_sweep False).startPass s hp ((sweepWf_iff s).2 hs))) ?_
      rw [startPass_left]
      omega
    next hp =>
      split
      next hv =>
        have hwf := (sweepWf_iff _).1 ((opKept_sweep False).sweepVisitEffect s ((sweepWf_iff s).2 hs))
        rcases sweepVisitEffect_left hs hv with hlt | hidle
        · exact ih hwf (by omega)
        · rw [sweepOut_idle k _ hidle.1 hidle.2]
          exact hidle
      next hv => exact ⟨by simpa using hp, by simpa using hv⟩

theorem sweepLeft_le (s : State) : s.sweepLeft ≤ Config.recordSlots + 1 := by
  show s.sweepLeft ≤ 8193
  unfold State.sweepLeft
  split <;> omega

/-- While the sweep is RUNNING, an idle sweep's next event does not fall in this TU. -/
theorem next_ne_of_idle {s : State} (h : s.SweepIdle) (hr : s.sweepRunning = true) : s.nextSweepTime ≠ s.clock := by
  obtain ⟨hp, hv⟩ := h
  unfold State.nextSweepTime
  cases hpass : s.pass
  case awaiting due =>
    simp only [State.passStartDue, hr, hpass, Bool.true_and, decide_eq_false_iff_not] at hp
    exact Ne.symm hp
  case running began =>
    simp only [State.visitDue, hr, hpass, Bool.true_and, decide_eq_false_iff_not] at hv
    exact Ne.symm hv

/-! ## The timers' part of the end of a TU -/

theorem sweepStops_modifyBoard (s : State) (b : Bd) (f : Board → Board) : SweepStops s (s.modifyBoard b f) :=
  ⟨rfl, .inl ⟨rfl, rfl⟩⟩

/-- What such work keeps, a charge keeps. -/
theorem sweepStops_charge (s : State) (b : Bd) (k : Evidence) : SweepStops s (s.charge b k) :=
  (verdictKept_of_sweepStops (P := SweepStops s) fun _ _ h hs => hs.trans h).charge s b k (sweepStops_modifyBoard s b _)
    (SweepStops.refl s)

/-- The timers of a board that run out can do no more to the sweep than stop it. -/
theorem sweepStops_expireTimers (s : State) (b : Bd) : SweepStops s (s.expireTimers b) := by
  have hgrace : SweepStops s (graceExpiryEffect b s) := by
    unfold graceExpiryEffect
    split
    next h =>
      rw [expireGrace_eq s b h.1]
      exact sweepStops_modifyBoard s b _
    next => exact SweepStops.refl s
  have hlost (t : State) : SweepStops t (lostExpiryEffect b t) := by
    unfold lostExpiryEffect
    split
    next =>
      have hrearmed : SweepStops t (t.rearmLost b) := ⟨rfl, .inl ⟨rfl, rfl⟩⟩
      exact hrearmed.trans (sweepStops_charge _ b _)
    next => exact SweepStops.refl t
  have hstall (t : State) : SweepStops t (stallExpiryEffect b t) := by
    unfold stallExpiryEffect
    split
    next =>
      split
      · exact sweepStops_modifyBoard t b _
      · exact (sweepStops_modifyBoard t b _).trans (sweepStops_charge _ b _)
    next => exact SweepStops.refl t
  exact (hgrace.trans (hlost _)).trans (hstall _)

theorem sweepStops_expireAll (bs : List Bd) (s : State) : SweepStops s (bs.foldl State.expireTimers s) := by
  induction bs generalizing s with
  | nil => exact SweepStops.refl s
  | cons b bs ih => exact (sweepStops_expireTimers s b).trans (ih _)

/-- Every timer of a board lies at or after now (R46). -/
def Board.OnTime (now : Time) (x : Board) : Prop :=
  x.graceEnd.all (past · now) = true ∧ x.lostExpiry.all (past · now) = true ∧ x.stallExpiry.all (past · now) = true

theorem boardKept_onTime : BoardKept fun _ now x _ => x.OnTime now where
  granted _ _ _ _ _ _ _ _ := ⟨rfl, rfl, rfl⟩
  pending _ _ _ _ _ hx := hx
  doubtful _ _ _ _ _ _ hx := hx
  live _ _ _ _ _ _ hx := hx
  warmed _ _ _ _ _ _ _ he _ := ⟨he.past.1, rfl, rfl⟩
  emptied _ _ _ _ _ _ _ he _ := ⟨he.past.1, rfl, rfl⟩
  retired _ _ _ _ _ _ := ⟨rfl, rfl, rfl⟩
  absolved _ _ _ _ _ hx := hx
  baseline _ _ _ _ _ hx := hx
  damaged _ _ _ _ hx := hx
  lodged _ _ x _ e _ he hx := by
    refine ⟨hx.1, hx.2.1, ?_⟩
    unfold Board.lodged
    dsimp only
    split
    · exact he.past.1
    · exact hx.2.2
  left _ _ x _ o _ _ _ _ hx := by
    refine ⟨hx.1, hx.2.1, ?_⟩
    unfold Board.left
    dsimp only
    split
    · rfl
    · exact hx.2.2
  sample _ _ _ _ _ _ _ hx := hx
  releases _ _ _ _ hx := hx
  progressed _ _ x _ e he hx := by
    refine ⟨hx.1, hx.2.1, ?_⟩
    unfold Board.progressed
    dsimp only
    split
    · exact he.past.1
    · exact hx.2.2
  graced _ _ x _ e f _ he hf hx := by
    unfold Board.graced Board.OnTime
    dsimp only
    refine ⟨rfl, ?_, ?_⟩
    · split
      · exact hx.2.1
      · exact he.past.1
    · split
      · exact hf.past.1
      · rfl
  pulse _ _ _ _ _ _ he hx := ⟨hx.1, he.past.1, hx.2.2⟩
  lost _ _ _ _ _ _ he hx := ⟨hx.1, he.past.1, hx.2.2⟩
  stall _ _ _ _ _ _ he hx := ⟨hx.1, hx.2.1, he.past.1⟩

theorem opKept_onTime (D : Bd → Prop) : OpKept (State.EachBoard (fun _ now x _ => x.OnTime now) D) :=
  boardKept_onTime.opKept_of_scoreless D (fun _ _ _ _ _ hx => hx) (fun _ _ _ _ _ hx => hx) fun _ _ _ _ _ hx => hx

/-- The timers asked for do not run out now. -/
def Board.Later (grace lost stall : Prop) (now : Time) (x : Board) : Prop :=
  (grace → x.graceEnd ≠ some now) ∧ (lost → x.lostExpiry ≠ some now) ∧ (stall → x.stallExpiry ≠ some now)

section Later

variable {grace lost stall : Prop}

theorem Ahead.ne_some {now e : Time} (h : Ahead now e) : some e ≠ some now := fun he => h.past.2 (Option.some.inj he)

theorem boardKept_later (grace lost stall : Prop) : BoardKept fun _ now x _ => x.Later grace lost stall now where
  granted _ _ _ _ _ _ _ _ := ⟨nofun, nofun, nofun⟩
  pending _ _ _ _ _ hx := hx
  doubtful _ _ _ _ _ _ hx := hx
  live _ _ _ _ _ _ hx := hx
  warmed _ _ _ _ _ _ _ he _ := ⟨fun _ => he.ne_some, nofun, nofun⟩
  emptied _ _ _ _ _ _ _ he _ := ⟨fun _ => he.ne_some, nofun, nofun⟩
  retired _ _ _ _ _ _ := ⟨nofun, nofun, nofun⟩
  absolved _ _ _ _ _ hx := hx
  baseline _ _ _ _ _ hx := hx
  damaged _ _ _ _ hx := hx
  lodged _ _ x _ e _ he hx := by
    refine ⟨hx.1, hx.2.1, fun h => ?_⟩
    unfold Board.lodged
    dsimp only
    split
    · exact he.ne_some
    · exact hx.2.2 h
  left _ _ x _ o _ _ _ _ hx := by
    refine ⟨hx.1, hx.2.1, fun h => ?_⟩
    unfold Board.left
    dsimp only
    split
    · exact nofun
    · exact hx.2.2 h
  sample _ _ _ _ _ _ _ hx := hx
  releases _ _ _ _ hx := hx
  progressed _ _ x _ e he hx := by
    refine ⟨hx.1, hx.2.1, fun h => ?_⟩
    unfold Board.progressed
    dsimp only
    split
    · exact he.ne_some
    · exact hx.2.2 h
  graced _ _ x _ e f _ he hf hx := by
    unfold Board.graced Board.Later
    dsimp only
    refine ⟨nofun, fun h => ?_, fun h => ?_⟩
    · split
      · exact hx.2.1 h
      · exact he.ne_some
    · split
      · exact hf.ne_some
      · exact nofun
  pulse _ _ _ _ _ _ he hx := ⟨hx.1, fun _ => he.ne_some, hx.2.2⟩
  lost _ _ _ _ _ _ he hx := ⟨hx.1, fun _ => he.ne_some, hx.2.2⟩
  stall _ _ _ _ _ _ he hx := ⟨hx.1, hx.2.1, fun _ => he.ne_some⟩

theorem opKept_later (grace lost stall : Prop) (D : Bd → Prop) :
    OpKept (State.EachBoard (fun _ now x _ => x.Later grace lost stall now) D) :=
  (boardKept_later grace lost stall).opKept_of_scoreless D (fun _ _ _ _ _ hx => hx) (fun _ _ _ _ _ hx => hx)
    fun _ _ _ _ _ hx => hx

end Later

/-- The timers asked for of the boards of D do not run out now. -/
def State.LaterOf (s : State) (grace lost stall : Prop) (D : Bd → Prop) : Prop :=
  s.EachBoard (fun _ now x _ => x.Later grace lost stall now) D

/-- Every board's timers are armed as its state allows and lie at or after now. -/
def State.TimersTimed (s : State) : Prop :=
  s.EachBoard (fun _ _ x l => x.TimersWf l) (fun _ => True) ∧ s.EachBoard (fun _ now x _ => x.OnTime now) fun _ => True

theorem opKept_timersTimed : OpKept State.TimersTimed := opKept_timers.and (opKept_onTime _)

/-- A timer at or after now that has not run out does not run out now. -/
theorem ne_now_of_not_ranOut {s : State} {e : Option Time} (h : ¬ s.ranOut e = true) : e ≠ some s.clock := by
  rintro rfl
  exact h (past_self s.clock)

/-- The grace end of board b does not fall in this TU once GRACE_EXPIRY has been taken. -/
theorem graceExpiryEffect_later (b : Bd) {s : State} (hs : s.TimersTimed) :
    (graceExpiryEffect b s).LaterOf True False False fun c => c = b := by
  rintro c rfl
  refine ⟨fun _ => ?_, nofun, nofun⟩
  unfold graceExpiryEffect
  split
  next h =>
    rw [(expireGrace_reads s c c h.1).1, if_pos rfl]
    exact nofun
  next h =>
    intro hnow
    obtain ⟨hgrace, -⟩ := hs.1 c trivial
    rw [hnow] at hgrace
    exact h ⟨of_decide_eq_true hgrace.symm, by rw [hnow]; exact past_self s.clock⟩

theorem lostExpiryEffect_later (b : Bd) (s : State) : (lostExpiryEffect b s).LaterOf False True False fun c => c = b := by
  unfold lostExpiryEffect
  split
  next =>
    refine (opKept_later False True False fun c => c = b).charge _ b _ ?_
    rintro c rfl
    refine ⟨nofun, fun _ => ?_, nofun⟩
    rw [(rearmLost_reads s c c).1, if_pos rfl]
    exact (ahead_hbMax s).ne_some
  next h =>
    rintro c rfl
    exact ⟨nofun, fun _ => ne_now_of_not_ranOut h, nofun⟩

theorem stallExpiryEffect_later (b : Bd) (s : State) : (stallExpiryEffect b s).LaterOf False False True fun c => c = b := by
  have hrearmed : (s.rearmStall b).LaterOf False False True fun c => c = b := by
    rintro c rfl
    refine ⟨nofun, nofun, fun _ => ?_⟩
    simpa [State.rearmStall] using (ahead_stallLimit s).ne_some
  unfold stallExpiryEffect
  split
  next =>
    split
    · exact hrearmed
    · exact (opKept_later False False True fun c => c = b).charge _ b _ hrearmed
  next h =>
    rintro c rfl
    exact ⟨nofun, nofun, fun _ => ne_now_of_not_ranOut h⟩

/-- Once the timers of board b have been taken, none of them runs out now. -/
theorem expireTimers_later (b : Bd) {s : State} (hs : s.TimersTimed) :
    (s.expireTimers b).LaterOf True True True fun c => c = b := by
  have hgrace := graceExpiryEffect_later b hs
  have hlost := lostExpiryEffect_later b (graceExpiryEffect b s)
  have hstall := stallExpiryEffect_later b (lostExpiryEffect b (graceExpiryEffect b s))
  have hgrace' := (opKept_later True False False _).stallExpiryEffect b _
    ((opKept_later True False False _).lostExpiryEffect b _ hgrace)
  have hlost' := (opKept_later False True False _).stallExpiryEffect b _ hlost
  exact fun c hc => ⟨(hgrace' c hc).1, (hlost' c hc).2.1, (hstall c hc).2.2⟩

theorem expireAll_later (bs : List Bd) {s : State} {D : Bd → Prop} (hs : s.TimersTimed)
    (hD : s.LaterOf True True True D) : (bs.foldl State.expireTimers s).LaterOf True True True fun c => D c ∨ c ∈ bs := by
  induction bs generalizing s D with
  | nil => simpa using hD
  | cons b bs ih =>
    have hb : (s.expireTimers b).LaterOf True True True fun c => D c ∨ c = b := by
      rintro c (hc | hc)
      · exact (opKept_later True True True D).expireTimers s b hD c hc
      · exact expireTimers_later b hs c hc
    simpa [or_assoc] using ih (opKept_timersTimed.expireTimers s b hs) hb

/-! ## Nothing of the part is ever late (R46, R49) -/

/-- With every timer at or after now and none running out now, every timer lies at or after the next TU. -/
theorem onTime_succ {now : Time} {x : Board} (hx : x.OnTime now) (hl : x.Later True True True now) : x.OnTime (now + 1) := by
  have hnext (e : Option Time) (he : e.all (past · now) = true) (hne : e ≠ some now) :
      e.all (past · (now + 1)) = true := by
    cases e
    case none => rfl
    case some e => exact past_succ he fun h => hne (by rw [h])
  obtain ⟨hg, hl1, hs⟩ := hx
  obtain ⟨lg, ll, ls⟩ := hl
  exact ⟨hnext _ hg (lg trivial), hnext _ hl1 (ll trivial), hnext _ hs (ls trivial)⟩

/-- The sweep and the timers of every board are as their states allow, and nothing is late. -/
def State.Timed (s : State) : Prop := s.SweepTimed True ∧ s.TimersTimed

theorem opKept_timed : OpKept State.Timed := (opKept_sweep True).and opKept_timersTimed

theorem endTu_eq (s : State) :
    s.endTu = allBoards.foldl State.expireTimers (State.sweepOut (Config.recordSlots + 1) s) := rfl

/-- When neither the sweep's next event nor a timer falls in this TU, the clock's step makes nothing late. -/
theorem tick_timed {s : State} (hs : s.Timed) (hsweep : s.sweepRunning = true → s.nextSweepTime ≠ s.clock)
    (htimers : s.LaterOf True True True fun _ => True) : s.tick.Timed :=
  ⟨⟨hs.1.1, fun _ hr => past_succ (hs.1.2 trivial hr) (hsweep hr)⟩, hs.2.1,
    fun b hb => onTime_succ (hs.2.2 b hb) (htimers b hb)⟩

theorem endTu_tick_timed {s : State} (hs : s.Timed) : s.endTu.tick.Timed := by
  obtain ⟨t, ht, hidle, hend⟩ : ∃ t : State, t.Timed ∧ t.SweepIdle ∧ s.endTu = allBoards.foldl State.expireTimers t :=
    ⟨State.sweepOut (Config.recordSlots + 1) s, opKept_timed.sweepOut (Config.recordSlots + 1) s hs,
      sweepOut_idle_after (Config.recordSlots + 1) hs.1.1 (sweepLeft_le s), endTu_eq s⟩
  obtain ⟨⟨hclock, hpass, hpos, hevpt⟩, hstop⟩ : SweepSame t s.endTu ∧ _ :=
    hend ▸ (sweepStops_expireAll allBoards t).imp_left VerdictFrame.sweepSame
  refine tick_timed (opKept_timed.endTu s hs) (fun hr => ?_) fun b _ => ?_
  · have hrun : t.sweepRunning = true := by
      rcases hstop with ⟨-, h⟩ | ⟨-, h⟩
      · exact h ▸ hr
      · exact absurd (h.symm.trans hr) Bool.false_ne_true
    have hne := next_ne_of_idle hidle hrun
    simpa only [State.nextSweepTime, hclock, hpass, hpos, hevpt] using hne
  · have hnone : t.LaterOf True True True fun _ => False := fun _ hc => hc.elim
    rw [hend]
    exact expireAll_later allBoards ht.2 hnone b (.inr (mem_allBoards b))

theorem timed_iff (s : State) : s.Timed ↔ s.TimersWf ∧ s.SweepWf ∧ s.OnTimeWf := by
  constructor
  · rintro ⟨⟨hwf, hsweep⟩, htimers, htimed⟩
    exact ⟨fun b => htimers b trivial, hwf, fun b => htimed b trivial, hsweep trivial⟩
  · rintro ⟨htimers, hwf, htimed, hsweep⟩
    exact ⟨⟨hwf, fun _ => hsweep⟩, fun b _ => htimers b, fun b _ => htimed b⟩

theorem timed_pinReset (s : State) : s.pinReset.Timed := by
  refine ⟨⟨?_, fun _ _ => ?_⟩, eachBoard_pinReset s timersWf_reset, eachBoard_pinReset s ⟨rfl, rfl, rfl⟩⟩
  · show State.held.SweepWf
    unfold State.SweepWf
    decide
  · show past 0 0 = true
    decide

theorem timed_releaseReset {s : State} (hs : s.Timed) : s.releaseReset.Timed := by
  refine ⟨?_, eachBoard_releaseReset hs.2.1, eachBoard_releaseReset hs.2.2⟩
  unfold State.releaseReset
  split
  · exact ⟨hs.1.1, fun _ _ => past_self s.clock⟩
  · exact hs.1

theorem step_keeps_timed {s t : State} (hs : s.Timed) (ht : step s = .next t) : t.Timed := by
  refine opKept_timed.step ?_ timed_pinReset (fun _ => timed_releaseReset) (fun _ => endTu_tick_timed) hs ht
  rintro s t ⟨_, _, _, _, _, _, _, rfl⟩ hs
  exact hs

/-- Settles O56: the timers of each board by themselves; and with the sweep's settings, that whatever falls due in a TU is
taken before the clock leaves it. -/
theorem timersKept : Obligations.TimersKept :=
  ⟨fun _ _ => step_keeps_timersWf, fun s t hs hwf htimed ht =>
    ((timed_iff t).1 (step_keeps_timed ((timed_iff s).2 ⟨hs, hwf, htimed⟩) ht)).2.2⟩

end Sys2Proof.Machine

/-! SUPPORT. The link, the output pins and the self-test, and the statement about them: only taking a frame and receiving bytes
touch the receiver and the buffer, every command drives the lines last, and the self-test moves through its phases alone. -/

namespace Sys2Proof.Machine

/-! ## What serving and the part's own events leave of the link -/

/-- The receiver, the buffer, READY and the RESET_N pin of t are those of s. -/
def LinkSame (s t : State) : Prop := t.rx = s.rx ∧ t.buffer = s.buffer ∧ t.ready = s.ready ∧ t.resetHeld = s.resetHeld

theorem VerdictFrame.linkSame {s t : State} (h : VerdictFrame s t) : LinkSame s t := by
  obtain ⟨-, hheld, hrx, hbuffer, -, hready, -⟩ := h.keeps
  exact ⟨hrx, hbuffer, hready, hheld⟩

theorem LinkSame.trans {s t u : State} (h : LinkSame s t) (k : LinkSame t u) : LinkSame s u := by
  unfold LinkSame at *
  simp_all

theorem verdictKept_linkSame (r : State) : VerdictKept (LinkSame r) :=
  verdictKept_of_sweepStops fun _ _ h hs => hs.trans h.1.linkSame

theorem opKept_linkSame (r : State) : OpKept (LinkSame r) where
  aside := by
    rintro s t ⟨_, _, _, _, _, _, _, _, _, rfl⟩ hs
    exact hs
  charge s b k hs := (verdictKept_linkSame r).charge s b k hs hs
  credit s b hs := (verdictKept_linkSame r).credit s b hs
  enrol s b _ hs := (verdictKept_linkSame r).afterExit s _ (hs.trans (frame_enterWarming s b).linkSame)
  reinstate s b _ hs := (verdictKept_linkSame r).reconsider _ (hs.trans (frame_enterWarming s b).linkSame)
  retireActive s b _ _ hs := (verdictKept_linkSame r).afterExit s _ (hs.trans (frame_leaveService s b).linkSame)
  retireDrained s b _ _ hs := (verdictKept_linkSame r).reconsider _ (hs.trans (frame_leaveService s b).linkSame)
  declare s b _ _ hs := (verdictKept_linkSame r).afterExit s _ (hs.trans (frame_grantVerdict s b _).linkSame)
  absolve s b _ hs := (verdictKept_linkSame r).afterExit s _ (hs.trans (frame_absolveBoard s b).linkSame)
  baseline _ _ _ hs := hs
  damage _ _ _ _ _ _ _ _ hs := hs
  halt _ _ _ hs := hs
  create s n rest b p _ _ _ hs := by
    rw [createRecord_eq]
    exact hs
  rewrite _ _ _ _ _ _ _ _ _ _ _ hs := hs
  retire s n hs := by
    obtain ⟨_, _, _, _, _, _, _, _, heq⟩ := retire_eq s n
    rw [heq]
    exact hs
  sample _ _ _ _ hs := hs
  releases _ _ hs := hs
  progress _ _ hs := hs
  group s f _ hs := (verdictKept_linkSame r).afterSetgroup (s.modifyGroups f) hs
  thresholds s f _ hs := (verdictKept_linkSame r).afterSetgroup _ ((verdictKept_linkSame r).reevaluateBoards allBoards _ hs)
  guard s f _ hs := (verdictKept_linkSame r).reconsider _
    (LinkSame.trans (t := s.modifyGroups _) hs (frame_reevaluateCommon _).linkSame)
  clear _ hs := hs
  startTest s inject hs := by
    unfold State.startTest
    rw [verifyGroups_eq]
    exact hs
  startPass s _ hs := by
    rw [startPass_eq]
    exact hs
  testFree s _ _ hs := by
    obtain ⟨_, _, _, _, _, _, _, _, heq⟩ := testFreeSlot_eq s s.sweepPosition
    rw [heq]
    exact hs
  moveOn s began _ _ hs := by
    obtain ⟨_, _, _, _, heq⟩ := afterVisit_eq began s
    rw [heq]
    exact hs
  grace s b hb hs := by
    rw [expireGrace_eq s b hb]
    exact hs
  pulse _ _ _ hs := hs
  lost _ _ _ hs := hs
  stall _ _ _ hs := hs

theorem linkSame_tick {r s : State} (hs : LinkSame r s) : LinkSame r s.tick := hs

theorem serve_linkSame (i : Instr) (s : State) : LinkSame s (serve i s) :=
  (opKept_linkSame s).serve i s ⟨rfl, rfl, rfl, rfl⟩

theorem clockEffect_linkSame {i : Instr} {effect : State → State} (h : clockEffect i = some effect) (s : State) :
    LinkSame s (effect s) :=
  have hs : LinkSame s s := ⟨rfl, rfl, rfl, rfl⟩
  (opKept_linkSame s).clockEffect h (linkSame_tick ((opKept_linkSame s).endTu s hs)) hs

/-! ## The receiver and the buffer (R161) -/

/-- The receiver and the buffer are well formed, and at most 16 frames are buffered. -/
def State.Receives (s : State) : Prop := s.rx.Wf ∧ (∀ f ∈ s.buffer, f.Wf) ∧ s.buffer.length ≤ Config.bufferFrames

theorem frameArrives_receives {s : State} {f : Frame} (hs : s.Receives) (hf : f.Wf) : (s.frameArrives f).Receives := by
  obtain ⟨hrx, hframes, hlen⟩ := hs
  unfold State.frameArrives
  split
  next hlt =>
    refine ⟨hrx, fun g hg => ?_, by simpa using hlt⟩
    rcases List.mem_append.1 hg with hg | hg
    · exact hframes g hg
    · exact List.mem_singleton.1 hg ▸ hf
  next => exact ⟨hrx, hframes, hlen⟩

/-- The frame whose BODY is complete has the payload its length byte gives. -/
theorem bodyFrame_wf (code tag len : Byte) (got : List Byte) (hlen : len.toNat ≤ 48) (hgot : got.length = len.toNat + 2) :
    (bodyFrame code tag len got).Wf := by
  have hshort : (bodyFrame code tag len got).overLong = false := decide_eq_false (Nat.not_lt.2 hlen)
  unfold Frame.Wf
  rw [hshort]
  simp [bodyFrame, hgot]

theorem receiveByte_receives {s : State} (b : Byte) (hs : s.Receives) : (s.receiveByte b).Receives := by
  obtain ⟨hrx, hframes, hlen⟩ := hs
  unfold State.receiveByte
  split
  next =>
    split
    · exact ⟨trivial, hframes, hlen⟩
    · exact ⟨hrx, hframes, hlen⟩
  next => exact ⟨trivial, hframes, hlen⟩
  next => exact ⟨trivial, hframes, hlen⟩
  next code tag _ =>
    split
    next hover =>
      refine frameArrives_receives ⟨trivial, hframes, hlen⟩ ?_
      have hlong : (⟨code, tag, b, [], 0⟩ : Frame).overLong = true := decide_eq_true hover
      unfold Frame.Wf
      rw [hlong]
      rfl
    next hover => exact ⟨⟨Nat.not_lt.1 hover, Nat.zero_lt_succ _⟩, hframes, hlen⟩
  next code tag len got hbody =>
    obtain ⟨h48, hgot⟩ : len.toNat ≤ 48 ∧ got.length < len.toNat + 2 := by
      rw [hbody] at hrx
      exact hrx
    dsimp only
    split
    next hall => exact frameArrives_receives ⟨trivial, hframes, hlen⟩ (bodyFrame_wf code tag len _ h48 hall)
    next hall =>
      refine ⟨⟨h48, ?_⟩, hframes, hlen⟩
      simp only [List.length_append, List.length_singleton] at hall ⊢
      omega

theorem receive_receives (bytes : List Byte) {s : State} (hs : s.Receives) : (s.receive bytes).Receives := by
  unfold State.receive
  induction bytes generalizing s with
  | nil => exact hs
  | cons b bytes ih => exact ih (receiveByte_receives b hs)

theorem linkWf_iff (s : State) : s.LinkWf ↔ s.Receives ∧ (s.resetHeld = true → s.buffer = []) :=
  ⟨fun ⟨h1, h2, h3, h4⟩ => ⟨⟨h1, h2, h3⟩, h4⟩, fun ⟨⟨h1, h2, h3⟩, h4⟩ => ⟨h1, h2, h3, h4⟩⟩

/-! ## The link and READY -/

/-- Outside pin reset: the receiver and the buffer are well formed, and READY stands as the buffer's length says. -/
def State.LinkReady (s : State) : Prop :=
  s.resetHeld = false ∧ s.Receives ∧ s.ready = decide (s.buffer.length < Config.readyLimit)

theorem linkReady_of_linkSame {s t : State} (h : LinkSame s t) (hs : s.LinkReady) : t.LinkReady := by
  obtain ⟨hrx, hbuffer, hready, hheld⟩ := h
  unfold State.LinkReady State.Receives at *
  rw [hrx, hbuffer, hready, hheld]
  exact hs

theorem linkReady_popFrame {s : State} (hs : s.LinkReady) : s.popFrame.LinkReady := by
  obtain ⟨hheld, ⟨hrx, hframes, hlen⟩, -⟩ := hs
  exact ⟨hheld, ⟨hrx, fun f hf => hframes f (List.mem_of_mem_tail hf),
    (List.tail_sublist _).length_le.trans hlen⟩, rfl⟩

theorem linkReady_takeOff {s : State} (i : Instr) (hs : s.LinkReady) : (s.takeOff i).LinkReady := by
  have hpop := linkReady_popFrame hs
  unfold State.takeOff
  split
  next => exact hs
  next f rest hbuffer =>
    split
    next => simpa [State.popFrame, hbuffer] using hpop
    next => exact hs

theorem linkReady_frameArrival {s : State} (bytes : List Byte) (hs : s.LinkReady) : (frameArrivalEffect bytes s).LinkReady := by
  obtain ⟨hheld, hreceives, -⟩ := hs
  have hheld' : (s.receive bytes).resetHeld = s.resetHeld := by
    obtain ⟨_, _, _, heq⟩ := receive_eq s bytes
    rw [heq]
  exact ⟨hheld'.trans hheld, receive_receives bytes hreceives, rfl⟩

theorem linkReady_linkCheck {s : State} (hs : s.LinkReady) : (linkCheckEffect s).LinkReady := by
  have hpop := linkReady_popFrame hs
  unfold linkCheckEffect
  split
  · exact hs
  · split
    · exact hpop
    · exact linkReady_of_linkSame (serve_linkSame _ _) hpop

/-! ## The pins -/

theorem pinsWf_driveLines {s : State} (hs : s.LinkReady) : s.driveLines.LinkWf ∧ s.driveLines.PinsWf := by
  obtain ⟨hheld, hreceives, hready⟩ := hs
  refine ⟨(linkWf_iff _).2 ⟨hreceives, fun h => ?_⟩, rfl, rfl, ?_⟩
  · exact absurd (hheld.symm.trans h) Bool.false_ne_true
  · show s.ready = (!s.resetHeld && _)
    rw [hheld]
    exact hready

theorem pinsWf_pinReset (s : State) : s.pinReset.LinkWf ∧ s.pinReset.PinsWf := by
  refine ⟨⟨trivial, ?_, Nat.zero_le _, fun _ => rfl⟩, ?_⟩
  · exact fun f hf => absurd hf List.not_mem_nil
  · show State.held.PinsWf
    unfold State.PinsWf
    decide +kernel

theorem pinsWf_releaseReset {s : State} (hl : s.LinkWf) (hp : s.PinsWf) : s.releaseReset.LinkWf ∧ s.releaseReset.PinsWf := by
  obtain ⟨hrx, hframes, hlen, hempty⟩ := hl
  unfold State.releaseReset
  split
  next hr =>
    refine ⟨⟨trivial, hframes, hlen, fun h => absurd h Bool.false_ne_true⟩, hp.1, hp.2.1, ?_⟩
    show true = (true && decide (s.buffer.length < Config.readyLimit))
    rw [hempty hr]
    rfl
  next => exact ⟨⟨hrx, hframes, hlen, hempty⟩, hp⟩

theorem exec_keeps_pinsWf {i : Instr} {s t : State} (hl : s.LinkWf) (hp : s.PinsWf) (ht : exec i s = .next t) :
    t.LinkWf ∧ t.PinsWf := by
  rcases exec_cases ht with ⟨-, rfl⟩ | ⟨-, rfl⟩ | ⟨-, rfl⟩ | ⟨u, rfl, hr, hu⟩
  · exact pinsWf_pinReset s
  · exact pinsWf_releaseReset hl hp
  · exact ⟨hl, hp⟩
  have hs : s.LinkReady := ⟨hr, ((linkWf_iff s).1 hl).1, by rw [hp.2.2, hr]; rfl⟩
  apply pinsWf_driveLines
  rcases hu with ⟨bytes, rfl⟩ | rfl | rfl | ⟨effect, heffect, rfl⟩
  · exact linkReady_frameArrival bytes hs
  · exact linkReady_linkCheck hs
  · exact linkReady_of_linkSame (serve_linkSame i _) (linkReady_takeOff i hs)
  · exact linkReady_of_linkSame (clockEffect_linkSame heffect s) hs

theorem step_keeps_pinsWf {s t : State} (hl : s.LinkWf) (hp : s.PinsWf) (ht : step s = .next t) : t.LinkWf ∧ t.PinsWf := by
  unfold step at ht
  split at ht
  next =>
    cases ht
    exact ⟨hl, hp⟩
  next c rest _ => exact exec_keeps_pinsWf (s := { s with pending := rest }) hl hp ht

/-! ## The self-test (R76, R156 to R159) -/

/-- The self-test and the test record of t are those of s. -/
def TestSame (s t : State) : Prop := t.selfTest = s.selfTest ∧ t.testRecord = s.testRecord

theorem VerdictFrame.testSame {s t : State} (h : VerdictFrame s t) : TestSame s t := by
  obtain ⟨-, -, -, -, -, -, -, -, -, -, -, -, -, -, -, -, -, -, -, -, htest, hrecord, -⟩ := h.keeps
  exact ⟨htest, hrecord⟩

theorem TestSame.testWf {s t : State} (h : TestSame s t) (hs : s.TestWf) : t.TestWf := by
  unfold State.TestWf at *
  rw [h.1, h.2]
  exact hs

theorem verdictKept_testWf : VerdictKept State.TestWf := verdictKept_of_sweepStops fun _ _ h => h.1.testSame.testWf

/-- The compare phase leaves the pending flag of its record (R157). -/
theorem compareRounds_pending (w a v k : Nat) (r : CompareRun) :
    (compareRounds w a v k r).record.pending = r.record.pending := by
  induction k generalizing r with
  | zero => rfl
  | succ k ih =>
    unfold compareRounds
    split
    · rfl
    · exact ih (r.next w a)

theorem testWf_startTest (s : State) (inject : Bool) : (s.startTest inject).TestWf :=
  ⟨rfl, rfl, compareRounds_pending _ _ _ 4096 _, rfl, fun _ => rfl⟩

theorem selfTest_startPass (s : State) :
    s.startPass.testRecord = s.testRecord
      ∧ s.startPass.selfTest
        = if s.selfTest.phase = .waiting then { s.selfTest with phase := .memory } else s.selfTest := by
  constructor
  · rw [startPass_eq]
  · have htaken : s.takeUpTimebase.selfTest = s.selfTest := by
      unfold State.takeUpTimebase
      split <;> rfl
    have hsettled : s.takeUpTimebase.verifyGroups.settleRate.selfTest = s.selfTest := by
      rw [verifyGroups_eq]
      exact htaken
    show (s.takeUpTimebase.verifyGroups.settleRate.beginMemoryPhase).selfTest = _
    unfold State.beginMemoryPhase
    rw [hsettled]
    split
    · rfl
    · exact hsettled

theorem testWf_startPass {s : State} (hs : s.TestWf) : s.startPass.TestWf := by
  obtain ⟨hrecord, htest⟩ := selfTest_startPass s
  obtain ⟨hstate, hscore, hpending, hrun, hresult⟩ := hs
  unfold State.TestWf
  rw [hrecord, htest]
  refine ⟨hstate, hscore, hpending, ?_⟩
  split
  next hw => exact ⟨by rw [hrun, hw]; rfl, hresult⟩
  next => exact ⟨hrun, hresult⟩

theorem testWf_afterVisit (began : Time) {s : State} (hs : s.TestWf) : (State.afterVisit began s).TestWf := by
  obtain ⟨hstate, hscore, hpending, hrun, hresult⟩ := hs
  unfold State.afterVisit
  dsimp only
  split
  · exact ⟨hstate, hscore, hpending, hrun, hresult⟩
  · split
    · exact ⟨hstate, hscore, hpending, rfl, fun h => absurd h Bool.false_ne_true⟩
    · exact ⟨hstate, hscore, hpending, hrun, hresult⟩

theorem testWf_testFreeSlot (n : Nat) {s : State} (hs : s.TestWf) : (s.testFreeSlot n).TestWf := by
  obtain ⟨hstate, hscore, hpending, hrun, hresult⟩ := hs
  unfold State.testFreeSlot
  dsimp only
  split
  · exact ⟨hstate, hscore, hpending, hrun, hresult⟩
  · rw [damageFree_eq]
    exact ⟨hstate, hscore, hpending, hrun, hresult⟩

theorem testWf_custodyReset {s : State} (hs : s.TestWf) : s.custodyReset.TestWf := by
  obtain ⟨-, -, -, hrun, hresult⟩ := hs
  have haborted : s.selfTest.aborted.running = decide (s.selfTest.aborted.phase ≠ .none)
      ∧ (s.selfTest.aborted.running = true → s.selfTest.aborted.result = .none) := by
    unfold SelfTest.aborted
    split
    · exact ⟨rfl, fun h => absurd h Bool.false_ne_true⟩
    · exact ⟨hrun, hresult⟩
  exact ⟨rfl, rfl, rfl, haborted⟩

theorem opKept_testWf : OpKept State.TestWf where
  aside := by
    rintro s t ⟨_, _, _, _, _, _, _, _, _, rfl⟩ hs
    exact hs
  charge s b k hs := verdictKept_testWf.charge s b k hs hs
  credit s b hs := verdictKept_testWf.credit s b hs
  enrol s b _ hs := verdictKept_testWf.afterExit s _ ((frame_enterWarming s b).testSame.testWf hs)
  reinstate s b _ hs := verdictKept_testWf.reconsider _ ((frame_enterWarming s b).testSame.testWf hs)
  retireActive s b _ _ hs := verdictKept_testWf.afterExit s _ ((frame_leaveService s b).testSame.testWf hs)
  retireDrained s b _ _ hs := verdictKept_testWf.reconsider _ ((frame_leaveService s b).testSame.testWf hs)
  declare s b _ _ hs := verdictKept_testWf.afterExit s _ ((frame_grantVerdict s b _).testSame.testWf hs)
  absolve s b _ hs := verdictKept_testWf.afterExit s _ ((frame_absolveBoard s b).testSame.testWf hs)
  baseline _ _ _ hs := hs
  damage _ _ _ _ _ _ _ _ hs := hs
  halt _ _ _ hs := hs
  create s n rest b p _ _ _ hs := by
    rw [createRecord_eq]
    exact hs
  rewrite _ _ _ _ _ _ _ _ _ _ _ hs := hs
  retire s n hs := by
    obtain ⟨_, _, _, _, _, _, _, _, heq⟩ := retire_eq s n
    rw [heq]
    exact hs
  sample _ _ _ _ hs := hs
  releases _ _ hs := hs
  progress _ _ hs := hs
  group s f _ hs := verdictKept_testWf.afterSetgroup (s.modifyGroups f) hs
  thresholds s f _ hs := verdictKept_testWf.afterSetgroup _ (verdictKept_testWf.reevaluateBoards allBoards _ hs)
  guard s f _ hs := verdictKept_testWf.reconsider _ ((frame_reevaluateCommon _).testSame.testWf hs)
  clear _ hs := testWf_custodyReset hs
  startTest s inject _ := testWf_startTest s inject
  startPass _ _ hs := testWf_startPass hs
  testFree _ _ _ hs := testWf_testFreeSlot _ hs
  moveOn _ began _ _ hs := testWf_afterVisit began hs
  grace s b hb hs := by
    rw [expireGrace_eq s b hb]
    exact hs
  pulse _ _ _ hs := hs
  lost _ _ _ hs := hs
  stall _ _ _ hs := hs

theorem testWf_tick {s : State} (hs : s.TestWf) : s.tick.TestWf := hs

theorem step_keeps_testWf {s t : State} (hs : s.TestWf) (ht : step s = .next t) : t.TestWf := by
  refine opKept_testWf.step ?_ (fun _ => ⟨rfl, rfl, rfl, rfl, fun _ => rfl⟩) (fun s hs => ?_)
    (fun s hs => testWf_tick (opKept_testWf.endTu s hs)) hs ht
  · rintro s t ⟨_, _, _, _, _, _, _, rfl⟩ hs
    exact hs
  · unfold State.releaseReset
    split <;> exact hs

/-! ## What ATTN_N and FAULT_N stand for (R146 to R148) -/

/-- The fetch order holds every latch (R142, R144). -/
theorem mem_latchOrder (r : LatchRef) : r ∈ latchOrder := by
  cases r <;> simp [latchOrder, mem_allBoards]
  case watch u => revert u; decide

theorem attnAsserted_iff (s : State) :
    s.attnAsserted = true ↔ ∃ r, s.latches.isSet r = true ∧ s.noticeMask.getLsbD (r.priority - 1) = true := by
  simp [State.attnAsserted, mem_latchOrder]

theorem faultSilent_iff (s : State) : s.faultSilent = true ↔ ∃ b, (s.board b).state = .silent := by
  simp [State.faultSilent, mem_allBoards]

/-- Some group is marked invalid exactly if one of the twelve valid flags is no. -/
theorem allValid_eq_false_iff (s : State) : s.allValid = false ↔ ∃ k, k < 12 ∧ s.groups.valids.getD k false = false := by
  have hlen : s.groups.valids.length = 12 := rfl
  rw [State.allValid, List.all_eq_false]
  constructor
  · rintro ⟨v, hv, hfalse⟩
    obtain ⟨k, hk, rfl⟩ := List.mem_iff_getElem.1 hv
    exact ⟨k, hlen ▸ hk, by rw [List.getD_eq_getElem _ _ hk]; simpa using hfalse⟩
  · rintro ⟨k, hk, hfalse⟩
    have hk' : k < s.groups.valids.length := hk
    rw [List.getD_eq_getElem _ _ hk'] at hfalse
    exact ⟨_, List.getElem_mem hk', by simp [hfalse]⟩

/-- What a map holds at a number is an entry of it. -/
theorem mem_of_mapFind {α : Type} {k : Nat} {a : α} {m : List (Nat × α)} (h : mapFind k m = some a) : (k, a) ∈ m := by
  induction m with
  | nil => exact absurd h nofun
  | cons e m ih =>
    obtain ⟨j, c⟩ := e
    unfold mapFind at h
    split at h
    next hj => simp_all
    next => exact List.mem_cons_of_mem _ (ih h)

theorem faultDamage_iff {s : State} (hm : mapWf s.slots = true) :
    s.faultDamage = true ↔ ∃ n x, s.slot n = some x ∧ x.isDamaged = true := by
  rw [State.faultDamage, List.any_eq_true]
  constructor
  · rintro ⟨⟨n, x⟩, he, hd⟩
    exact ⟨n, x, mapFind_of_mem hm he, hd⟩
  · rintro ⟨n, x, hx, hd⟩
    exact ⟨(n, x), mem_of_mapFind hx, hd⟩

theorem faultAsserted_iff {s : State} (hm : mapWf s.slots = true) :
    s.faultAsserted = true ↔
      (s.faultMask.getLsbD 0 = true ∧ ∃ b, (s.board b).state = .silent)
      ∨ (s.faultMask.getLsbD 1 = true ∧ s.commonCause = true)
      ∨ (s.faultMask.getLsbD 2 = true ∧ s.halted = true)
      ∨ (s.faultMask.getLsbD 3 = true ∧ ∃ k, k < 12 ∧ s.groups.valids.getD k false = false)
      ∨ (s.faultMask.getLsbD 4 = true ∧ ∃ n x, s.slot n = some x ∧ x.isDamaged = true) := by
  rw [← faultSilent_iff, ← allValid_eq_false_iff, ← faultDamage_iff hm]
  simp [State.faultAsserted, State.faultConditions, List.zipIdx, and_comm]

/-- Settles O59: the link's and the pins' invariant command by command, the self-test's by its operations, and what stands
behind each line. -/
theorem linkPinsAndSelfTestKept : Obligations.LinkPinsAndSelfTestKept :=
  ⟨fun _ _ => step_keeps_pinsWf, fun _ _ => step_keeps_testWf, attnAsserted_iff, fun _ => faultAsserted_iff⟩

end Sys2Proof.Machine

/-! SUPPORT. The Verdict Unit's counts, its common-cause state and its pending set, and the statement about them: each report of a
change of state moves the counts as the boards moved, and every path on which a condition of R119 can cease to fail ends in a
reconsideration. -/

namespace Sys2Proof.Machine

/-! ## The counts of the boards (R117) -/

theorem countP_move {α : Type} [DecidableEq α] {l : List α} {a : α} {p q : α → Bool} (hl : l.Nodup) (ha : a ∈ l)
    (hpq : ∀ c, c ≠ a → q c = p c) : l.countP q = moveCount (l.countP p) (p a) (q a) := by
  have hrest : (l.erase a).countP q = (l.erase a).countP p :=
    List.countP_congr fun c hc => by rw [hpq c (hl.mem_erase_iff.1 hc).1]
  rw [(List.perm_cons_erase ha).countP_eq q, (List.perm_cons_erase ha).countP_eq p, List.countP_cons, List.countP_cons, hrest]
  unfold moveCount
  cases p a <;> cases q a <;> simp

/-- When one board alone has moved between the states p counts and the others, the count has moved with it. -/
theorem countBoards_move {s t : State} (b : Bd) (p : BoardState → Bool)
    (hothers : ∀ c, c ≠ b → (t.board c).state = (s.board c).state) :
    t.countBoards p = moveCount (s.countBoards p) (p (s.board b).state) (p (t.board b).state) := by
  unfold State.countBoards
  rw [← List.countP_eq_length_filter, ← List.countP_eq_length_filter]
  exact countP_move (by decide) (mem_allBoards b) fun c hc => by rw [hothers c hc]

theorem countBoards_congr {s t : State} (p : BoardState → Bool) (h : ∀ b, p (t.board b).state = p (s.board b).state) :
    t.countBoards p = s.countBoards p := by
  unfold State.countBoards
  simp only [h]

/-- The counts and the common-cause state stand as the boards do (R117, R118). -/
def State.Tallied (s : State) : Prop :=
  s.active = s.countBoards BoardState.isActive ∧ s.doubtful = s.countBoards BoardState.isDoubtful
    ∧ s.down = s.countBoards BoardState.isDown ∧ s.commonCause = s.commonNow

/-- One board has moved and the Verdict Unit has not yet been told. -/
def MovesBoard (s t : State) (b : Bd) (new : BoardState) : Prop :=
  (∀ c, c ≠ b → (t.board c).state = (s.board c).state) ∧ (t.board b).state = new
    ∧ t.active = s.active ∧ t.doubtful = s.doubtful ∧ t.down = s.down ∧ t.commonCause = s.commonCause ∧ t.ccPct = s.ccPct

/-- The report of a change of state leaves the common-cause state as the counts give it (R118). -/
theorem reportState_commonCause (s : State) (old new : BoardState) (h : s.commonCause = s.commonNow) :
    (s.reportState old new).commonCause = (s.reportState old new).commonNow := by
  cases hc : old.sameCounts new
  · rw [reportState_of_newCounts s old new hc, (reevaluateCommon_reads _).2.2.2.2.2.2.2.2]
    have hpct : ∀ t : State, t.reevaluateCommon.ccPct = t.ccPct := fun t => by
      unfold State.reevaluateCommon
      split <;> rfl
    simp [State.commonNow, hpct]
  · rw [reportState_of_sameCounts s old new hc]
    exact h

/-- A board's move, reported, keeps the counts and the common-cause state in step with the boards (R117, R118). -/
theorem tallied_reportState {s t : State} {b : Bd} {new : BoardState} (h : MovesBoard s t b new) (hs : s.Tallied) :
    (t.reportState (s.board b).state new).Tallied := by
  obtain ⟨hothers, hnew, hactive, hdoubtful, hdown, hcommon, hpct⟩ := h
  obtain ⟨ha, hd, hw, hc⟩ := hs
  obtain ⟨hboards, -, -, -, -, hra, hrd, hrw⟩ := reportState_reads t (s.board b).state new
  have hcount (p : BoardState → Bool) : (t.reportState (s.board b).state new).countBoards p
      = moveCount (s.countBoards p) (p (s.board b).state) (p new) := by
    rw [countBoards_move (s := s) b p fun c hne => by rw [hboards]; exact hothers c hne, hboards, hnew]
  refine ⟨?_, ?_, ?_, reportState_commonCause _ _ _ ?_⟩
  · rw [hra, hactive, ha, hcount]
  · rw [hrd, hdoubtful, hd, hcount]
  · rw [hrw, hdown, hw, hcount]
  · rw [hcommon, hc]
    simp [State.commonNow, hactive, hdoubtful, hpct]

/-! ## The pending set (R119, R120) -/

/-- The pending set holds the boards whose pending flag is yes, and these are DOUBTFUL (R119, R120). -/
def State.QueueWf (s : State) : Prop :=
  ∀ b, (s.cause b).isSome = (s.board b).pending ∧ ((s.board b).pending = true → (s.board b).state = .doubtful)

/-- What each board contributes to the pending set is as before, or it is out of the set. -/
theorem queueWf_of_others {s t : State} (b : Bd)
    (hothers : ∀ c, c ≠ b → t.cause c = s.cause c ∧ (t.board c).pending = (s.board c).pending
      ∧ (t.board c).state = (s.board c).state)
    (hb : (t.cause b).isSome = (t.board b).pending ∧ ((t.board b).pending = true → (t.board b).state = .doubtful))
    (hs : s.QueueWf) : t.QueueWf := by
  intro c
  by_cases hc : c = b
  · exact hc ▸ hb
  · obtain ⟨hcause, hpending, hstate⟩ := hothers c hc
    rw [hcause, hpending, hstate]
    exact hs c

theorem cause_none_of_not_doubtful {s : State} (hs : s.QueueWf) {b : Bd} (hb : (s.board b).state ≠ .doubtful) :
    s.cause b = none ∧ (s.board b).pending = false := by
  obtain ⟨hcause, hdoubtful⟩ := hs b
  have hp : (s.board b).pending = false := Bool.eq_false_iff.2 fun hp => hb (hdoubtful hp)
  rw [hp] at hcause
  exact ⟨Option.isNone_iff_eq_none.1 (by simpa using hcause), hp⟩

/-! ## The Verdict Unit's own operations -/

/-- The effective thresholds are legal, the counts stand as the boards do and the down count within MAX_DOWN, and the pending
set as the boards' flags (R99, R117, R118, R121). -/
def State.Counted (s : State) : Prop :=
  ThresholdsLegal s.effThresholds ∧ s.Tallied ∧ s.down ≤ s.maxDown ∧ s.QueueWf

theorem frame_maxDown {s t : State} (h : VerdictFrame s t) :
    t.maxDown = s.maxDown ∧ t.ccPct = s.ccPct ∧ t.allValid = s.allValid ∧ t.effThresholds = s.effThresholds := by
  obtain ⟨-, -, -, -, -, -, -, -, -, -, -, -, -, -, -, hth, -, -, -, hgroups, -⟩ := h.keeps
  simp [State.maxDown, State.ccPct, State.allValid, hgroups, hth]

/-- A board's move, reported, that keeps the pending set and the quota, keeps all that is counted. -/
theorem counted_reportState {s t : State} {b : Bd} {new : BoardState} (hmove : MovesBoard s t b new)
    (hframe : VerdictFrame s t) (hquota : moveCount s.down (s.board b).state.isDown new.isDown ≤ s.maxDown)
    (hqueue : t.QueueWf) (hs : s.Counted) : (t.reportState (s.board b).state new).Counted := by
  obtain ⟨hlegal, htallied, -, -⟩ := hs
  have hframe' : VerdictFrame s (t.reportState (s.board b).state new) := hframe.trans (frame_reportState _ _ _)
  obtain ⟨hmax, -, -, hth⟩ := frame_maxDown hframe'
  obtain ⟨hboards, -, hcauses, -, -, -, -, hdown⟩ := reportState_reads t (s.board b).state new
  refine ⟨hth ▸ hlegal, tallied_reportState hmove htallied, ?_, fun c => ?_⟩
  · rw [hdown, hmax, hmove.2.2.2.2.1]
    exact hquota
  · rw [hboards, hcauses]
    exact hqueue c

theorem setBoardState_counted {s : State} {b : Bd} {new : BoardState}
    (hquota : moveCount s.down (s.board b).state.isDown new.isDown ≤ s.maxDown)
    (hp : (s.board b).pending = true → new = .doubtful) (hs : s.Counted) : (s.setBoardState b new).Counted := by
  refine counted_reportState (t := s.modifyBoard b fun x => { x with state := new }) ⟨fun c hc => ?_, ?_, rfl, rfl, rfl, rfl, rfl⟩ (frame_modifyBoard s b _) hquota ?_ hs
  · simp [hc]
  · simp
  · refine queueWf_of_others (s := s) b (fun c hc => ⟨rfl, ?_⟩) ⟨?_, fun h => ?_⟩ hs.2.2.2
    · simp [hc]
    · simpa using (hs.2.2.2 b).1
    · simpa using hp (by simpa using h)

/-- Two states whose counts, causes, thresholds and quota agree and whose boards count alike are counted together. -/
theorem State.Counted.congr {s t : State} (hs : s.Counted) (hth : t.effThresholds = s.effThresholds) (hmax : t.maxDown = s.maxDown)
    (hpct : t.ccPct = s.ccPct) (hcounts : t.active = s.active ∧ t.doubtful = s.doubtful ∧ t.down = s.down)
    (hcommon : t.commonCause = s.commonCause)
    (hboards : ∀ b, (t.cause b).isSome = (s.cause b).isSome ∧ (t.board b).pending = (s.board b).pending
      ∧ (t.board b).state.isActive = (s.board b).state.isActive
      ∧ (t.board b).state.isDoubtful = (s.board b).state.isDoubtful
      ∧ (t.board b).state.isDown = (s.board b).state.isDown) : t.Counted := by
  obtain ⟨hlegal, ⟨ha, hd, hw, hc⟩, hquota, hqueue⟩ := hs
  obtain ⟨hta, htd, htw⟩ := hcounts
  have hdoubtful (x : BoardState) : x = .doubtful ↔ x.isDoubtful = true := by cases x <;> simp [BoardState.isDoubtful]
  refine ⟨hth ▸ hlegal, ⟨?_, ?_, ?_, ?_⟩, by rw [htw, hmax]; exact hquota, fun b => ?_⟩
  · rw [hta, ha, countBoards_congr _ fun b => (hboards b).2.2.1]
  · rw [htd, hd, countBoards_congr _ fun b => (hboards b).2.2.2.1]
  · rw [htw, hw, countBoards_congr _ fun b => (hboards b).2.2.2.2]
  · rw [hcommon, hc]
    simp [State.commonNow, hta, htd, hpct]
  · obtain ⟨hcause, hpending, -, hstate, -⟩ := hboards b
    rw [hcause, hpending, hdoubtful, hstate, ← hdoubtful]
    exact hqueue b

/-! ## The grant -/

/-- The walk of a grant changes slots, index entries, boards' damaged counts and latches, and may enter HALTED (R122, R152). -/
theorem holdWalk_eq (b : Bd) (l : List Nat) (s : State) :
    ∃ slots index boards latches halted running, (State.holdWalk b l s).1 =
      { s with slots := slots, index := index, boards := boards, latches := latches, halted := halted, sweepRunning := running } := by
  induction l generalizing s with
  | nil => exact ⟨_, _, _, _, _, _, rfl⟩
  | cons n l ih =>
    unfold State.holdWalk
    split
    · split
      case h_1 p parity _ =>
        split
        · rw [offer_eq]
          exact ih _
        · exact ih (s.damageRecord n b p parity)
      all_goals exact ih s
    · exact ⟨_, _, _, _, _, _, rfl⟩

/-- The walk and the drain change what the walk changes; the drain of a SILENT board moves its state alone (R122, R123). -/
theorem holdRecords_eq (s : State) (b : Bd) (hb : (s.board b).state = .silent) :
    ∃ slots index boards latches halted running, s.holdRecords b =
      { s with slots := slots, index := index, boards := boards, latches := latches, halted := halted, sweepRunning := running } := by
  obtain ⟨slots, index, boards, latches, halted, running, hwalk⟩ := holdWalk_eq b (s.list b) s
  obtain ⟨-, ⟨d, hself⟩, -⟩ := holdWalk_boards b (s.list b) s
  unfold State.holdRecords
  dsimp only
  split
  · exact ⟨_, _, _, _, _, _, hwalk⟩
  · split
    · rw [hwalk]
      exact ⟨_, _, _, _, _, _, rfl⟩
    · split
      · rw [setBoardState_drained _ _ (by rw [hself]; exact hb), hwalk]
        exact ⟨_, _, _, _, _, _, rfl⟩
      · exact ⟨_, _, _, _, _, _, hwalk⟩

theorem holdRecords_counted {s : State} {b : Bd} (hb : (s.board b).state = .silent) (hs : s.Counted) :
    (s.holdRecords b).Counted := by
  obtain ⟨hothers, ⟨st, d, hst, hself⟩, -⟩ := holdRecords_boards s b
  obtain ⟨_, _, boards, _, _, _, heq⟩ := holdRecords_eq s b hb
  have hboards (c : Bd) : ((s.holdRecords b).board c).pending = (s.board c).pending
      ∧ ((s.holdRecords b).board c).state.isActive = (s.board c).state.isActive
      ∧ ((s.holdRecords b).board c).state.isDoubtful = (s.board c).state.isDoubtful
      ∧ ((s.holdRecords b).board c).state.isDown = (s.board c).state.isDown := by
    by_cases hc : c = b
    · subst hc
      rw [hself, hb]
      rcases hst with rfl | rfl
      · rw [hb]
        exact ⟨rfl, rfl, rfl, rfl⟩
      · exact ⟨rfl, rfl, rfl, rfl⟩
    · rw [hothers c hc]
      exact ⟨rfl, rfl, rfl, rfl⟩
  refine hs.congr ?_ ?_ ?_ ?_ ?_ fun c => ⟨?_, hboards c⟩ <;> rw [heq] <;> first | rfl | exact ⟨rfl, rfl, rfl⟩

theorem silence_reads (s : State) (b : Bd) :
    (∀ c, c ≠ b → (s.silence b).board c = s.board c ∧ (s.silence b).cause c = s.cause c)
      ∧ ((s.silence b).board b).state = .silent ∧ ((s.silence b).board b).pending = false ∧ (s.silence b).cause b = none := by
  refine ⟨fun c hc => ?_, ?_, ?_, ?_⟩ <;> simp [State.silence, *]

/-- A grant below MAX_DOWN keeps what is counted (R122). -/
theorem grantVerdict_counted {s : State} (b : Bd) (path : VerdictPath) (hdown : s.down < s.maxDown) (hs : s.Counted) :
    (s.grantVerdict b path).Counted := by
  obtain ⟨hothers, hstate, hpending, hcause⟩ := silence_reads s b
  have hreported : ((s.silence b).reportState (s.board b).state .silent).Counted := by
    refine counted_reportState ⟨fun c hc => ?_, hstate, rfl, rfl, rfl, rfl, rfl⟩ (frame_silence s b) ?_ ?_ hs
    · rw [(hothers c hc).1]
    · unfold moveCount
      have := Bool.toNat_le (c := BoardState.silent.isDown)
      omega
    · refine queueWf_of_others b (fun c hc => ?_) ⟨?_, fun h => ?_⟩ hs.2.2.2
      · rw [(hothers c hc).1, (hothers c hc).2]
        exact ⟨rfl, rfl, rfl⟩
      · rw [hcause, hpending]
        rfl
      · exact absurd (hpending.symm.trans h) Bool.false_ne_true
  refine holdRecords_counted (s := State.latchVerdict _ b path) ?_ hreported
  exact (congrArg Board.state ((reportState_reads _ _ _).1 b)).trans hstate

/-! ## Every operation keeps what is counted -/

theorem modifyPending_counted {s : State} (b : Bd) (p : Bool) (c : Option Cause) (hc : c.isSome = p)
    (hp : p = true → (s.board b).state = .doubtful) (hs : s.Counted) :
    ((s.modifyBoard b fun x => { x with pending := p }).setCause b c).Counted := by
  obtain ⟨hlegal, ⟨ha, hd, hw, hcommon⟩, hquota, hqueue⟩ := hs
  have hstates : ∀ d, (((s.modifyBoard b fun x => { x with pending := p }).setCause b c).board d).state = (s.board d).state := by
    intro d
    by_cases hdb : d = b <;> simp [hdb]
  have hcount (q : BoardState → Bool) :
      ((s.modifyBoard b fun x => { x with pending := p }).setCause b c).countBoards q = s.countBoards q :=
    countBoards_congr q fun d => by rw [hstates]
  refine ⟨hlegal, ⟨?_, ?_, ?_, hcommon⟩, hquota, ?_⟩
  · rw [hcount]; exact ha
  · rw [hcount]; exact hd
  · rw [hcount]; exact hw
  · refine queueWf_of_others b (fun d hdb => ?_) ⟨?_, fun h => ?_⟩ hqueue
    · simp [hdb]
    · simp [hc]
    · rw [hstates]
      exact hp (by simpa using h)

theorem verdictKept_counted : VerdictKept State.Counted where
  latch _ _ hs := hs
  grant s b path hdown _ hs := grantVerdict_counted b path hdown hs
  withhold s b c hb hs := modifyPending_counted b true (some c) rfl (fun _ => hb) hs
  record s b c hb hs := by
    refine hs.congr rfl rfl rfl ⟨rfl, rfl, rfl⟩ rfl fun d => ⟨?_, rfl, rfl, rfl, rfl⟩
    by_cases hd : d = b
    · subst hd
      simp [hb]
    · simp [hd]
  clear s b hs := modifyPending_counted b false none rfl nofun hs
  doubt s b hb _ hs := setBoardState_counted (by rw [hb]; exact hs.2.2.1) (fun _ => rfl) hs
  live s b hb hp hs := by
    obtain ⟨hstate, hscore⟩ : (s.board b).state = .doubtful ∧ (s.board b).score + s.levelH < s.levelA := by
      simpa [State.returnsToLive] using hb
    obtain ⟨-, -, -, -, hav, -⟩ := hs.1
    refine setBoardState_counted (by rw [hstate]; exact hs.2.2.1) (fun h => absurd (hp h) ?_) hs
    show ¬ s.effThresholds.verdict.toNat ≤ _
    have : (s.board b).score < s.effThresholds.alert.toNat := Nat.lt_of_le_of_lt (Nat.le_add_right _ _) hscore
    omega

/-- A board that leaves the pending set as it moves, its line and record set anew, keeps what is counted. -/
theorem counted_move {s t : State} {b : Bd} {new : BoardState} (hframe : VerdictFrame s t)
    (hcounts : t.active = s.active ∧ t.doubtful = s.doubtful ∧ t.down = s.down ∧ t.commonCause = s.commonCause)
    (hothers : ∀ c, c ≠ b → t.board c = s.board c ∧ t.cause c = s.cause c)
    (hself : (t.board b).state = new ∧ (t.board b).pending = false ∧ t.cause b = none)
    (hquota : moveCount s.down (s.board b).state.isDown new.isDown ≤ s.maxDown) (hs : s.Counted) :
    (t.reportState (s.board b).state new).Counted := by
  obtain ⟨hactive, hdoubtful, hdown, hcommon⟩ := hcounts
  obtain ⟨hnew, hpending, hcause⟩ := hself
  obtain ⟨-, hpct, -⟩ := frame_maxDown hframe
  refine counted_reportState ⟨fun c hc => ?_, hnew, hactive, hdoubtful, hdown, hcommon, hpct⟩ hframe hquota ?_ hs
  · rw [(hothers c hc).1]
  · refine queueWf_of_others (s := s) b (fun c hc => ?_) ⟨?_, fun h => ?_⟩ hs.2.2.2
    · rw [(hothers c hc).1, (hothers c hc).2]
      exact ⟨rfl, rfl, rfl⟩
    · rw [hcause, hpending]
      rfl
    · exact absurd (hpending.symm.trans h) Bool.false_ne_true

theorem enterWarming_counted {s : State} {b : Bd} (hb : (s.board b).state ≠ .doubtful) (hs : s.Counted) :
    (s.enterWarming b).Counted := by
  obtain ⟨hcause, -⟩ := cause_none_of_not_doubtful hs.2.2.2 hb
  refine counted_move (b := b) (new := .warming) ((frame_modifyBoard s b _).trans (frame_modifyLine _ b _)) ⟨rfl, rfl, rfl, rfl⟩
    (fun c hc => ?_) ⟨?_, ?_, hcause⟩ ((Nat.sub_le _ _).trans hs.2.2.1) hs
  · simp [hc]
  · simp [Board.warmed]
  · simp [Board.warmed]

theorem leaveService_counted {s : State} {b : Bd} (hb : (s.board b).state ≠ .doubtful) (hs : s.Counted) :
    (s.leaveService b).Counted := by
  obtain ⟨hcause, hpending⟩ := cause_none_of_not_doubtful hs.2.2.2 hb
  refine counted_move (b := b) (new := .absent) ((frame_modifyBoard s b _).trans (frame_modifyLine _ b _)) ⟨rfl, rfl, rfl, rfl⟩
    (fun c hc => ?_) ⟨?_, ?_, hcause⟩ ((Nat.sub_le _ _).trans hs.2.2.1) hs
  · simp [hc]
  · simp [Board.retired]
  · simpa [Board.retired] using hpending

/-! ## Operations that report no change of a count -/

/-- t's counts, causes, thresholds and GUARD fields are those of s, its boards count alike, and no group is valid in t that was
not in s. -/
def Unreported (s t : State) : Prop :=
  (t.active = s.active ∧ t.doubtful = s.doubtful ∧ t.down = s.down) ∧ t.commonCause = s.commonCause
    ∧ t.withheld = s.withheld ∧ t.effThresholds = s.effThresholds ∧ t.groups.guard.fields = s.groups.guard.fields
    ∧ (t.allValid = true → s.allValid = true)
    ∧ ∀ b, (t.board b).pending = (s.board b).pending ∧ (t.board b).state.isActive = (s.board b).state.isActive
      ∧ (t.board b).state.isDoubtful = (s.board b).state.isDoubtful ∧ (t.board b).state.isDown = (s.board b).state.isDown

theorem Unreported.counted {s t : State} (h : Unreported s t) (hs : s.Counted) : t.Counted := by
  obtain ⟨hcounts, hcommon, hwithheld, hth, hguard, -, hboards⟩ := h
  refine hs.congr hth ?_ ?_ hcounts hcommon fun b => ⟨?_, hboards b⟩
  · simp [State.maxDown, hguard]
  · simp [State.ccPct, hguard]
  · simp [State.cause, hwithheld]

/-- A change of one board's record that leaves its state and its pending flag is not reported. -/
theorem unreported_modifyBoard {s : State} {b : Bd} {f : Board → Board} (hstate : (f (s.board b)).state = (s.board b).state)
    (hpending : (f (s.board b)).pending = (s.board b).pending) : Unreported s (s.modifyBoard b f) := by
  refine ⟨⟨rfl, rfl, rfl⟩, rfl, rfl, rfl, rfl, id, fun c => ?_⟩
  by_cases hc : c = b
  · subst hc
    simp [hstate, hpending]
  · simp [hc]

theorem unreported_retire (s : State) (n : Nat) : Unreported s (s.retire n) := by
  have hboards (c : Bd) : ((s.retire n).board c).pending = (s.board c).pending
      ∧ ((s.retire n).board c).state.isActive = (s.board c).state.isActive
      ∧ ((s.retire n).board c).state.isDoubtful = (s.board c).state.isDoubtful
      ∧ ((s.retire n).board c).state.isDown = (s.board c).state.isDown := by
    obtain ⟨-, hboard⟩ := retire_boards s n c
    rcases hboard with hboard | ⟨o, d, st, -, hst, hboard⟩ <;> rw [hboard]
    · exact ⟨rfl, rfl, rfl, rfl⟩
    · rcases hst with rfl | ⟨hsilent, rfl⟩
      · exact ⟨rfl, rfl, rfl, rfl⟩
      · rw [hsilent]
        exact ⟨rfl, rfl, rfl, rfl⟩
  obtain ⟨_, _, _, _, _, _, _, _, heq⟩ := retire_eq s n
  refine ⟨?_, ?_, ?_, ?_, ?_, ?_, hboards⟩ <;> rw [heq]
  · exact ⟨rfl, rfl, rfl⟩
  · exact id

theorem absolveBoard_counted {s : State} {b : Bd} (hs : s.Counted) : (s.absolveBoard b).Counted := by
  have hscore : (s.modifyBoard b fun x => { x with score := 0 }).Counted := (unreported_modifyBoard rfl rfl).counted hs
  have hclear := verdictKept_counted.clear _ b hscore
  refine setBoardState_counted ((Nat.sub_le _ _).trans hclear.2.2.1) (fun h => ?_) hclear
  simp [State.clearPending] at h

/-- A verified group is valid only if it was (R50, R157). -/
theorem allValid_of_verify {s t : State} (ht : t.groups = s.groups.verify) (h : t.allValid = true) : s.allValid = true := by
  unfold State.allValid at *
  rw [ht] at h
  simp only [Groups.valids, Groups.verify, verifyGroup, List.all_cons, List.all_nil, id, Bool.and_true, Bool.and_eq_true] at h ⊢
  simp_all

/-- P is kept by every operation of the Verdict Unit, the boards' moves and the settings, and by whatever reports nothing. -/
structure ReportKept (P : State → Prop) : Prop where
  unreported : ∀ s t, Unreported s t → P s → P t
  charge : ∀ s b k, P s → P (s.charge b k)
  credit : ∀ s b, P s → P (s.credit b)
  enrol : ∀ s b, (s.board b).state = .absent → P s → P (s.afterExit (s.enterWarming b))
  reinstate : ∀ s b, (s.board b).state = .drained → P s → P (s.enterWarming b).reconsider
  retireActive : ∀ s b, (s.board b).state = .warming ∨ (s.board b).state = .live → P s → P (s.afterExit (s.leaveService b))
  retireDrained : ∀ s b, (s.board b).state = .drained → P s → P (s.leaveService b).reconsider
  declare : ∀ s b, (s.board b).state.isActive = true → s.down < s.maxDown → P s → P (s.afterExit (s.grantVerdict b .declared))
  absolve : ∀ s b, (s.board b).state = .live ∨ (s.board b).state = .doubtful → P s → P (s.afterExit (s.absolveBoard b))
  group : ∀ s f, (f s.groups).guard.fields = s.groups.guard.fields → P s → P (s.modifyGroups f).afterSetgroup
  thresholds : ∀ s f, checkThresholds f = none → P s → P (writeThresholds f s)
  guard : ∀ s f, checkGuard s.down f = none → P s → P (writeGuard f s)
  clear : ∀ s, P s → P s.custodyReset

theorem ReportKept.opKept {P : State → Prop} (h : ReportKept P) : OpKept P where
  aside := by
    rintro s t ⟨_, _, _, _, _, _, _, _, _, rfl⟩ hs
    exact h.unreported s _ ⟨⟨rfl, rfl, rfl⟩, rfl, rfl, rfl, rfl, id, fun _ => ⟨rfl, rfl, rfl, rfl⟩⟩ hs
  charge := h.charge
  credit := h.credit
  enrol := h.enrol
  reinstate := h.reinstate
  retireActive s b hb _ hs := h.retireActive s b hb hs
  retireDrained s b hb _ hs := h.retireDrained s b hb hs
  declare := h.declare
  absolve := h.absolve
  baseline s _ _ hs := h.unreported s _ (unreported_modifyBoard rfl rfl) hs
  damage s n _ b p q _ _ hs := h.unreported s _
    (unreported_modifyBoard (s := (s.setSlot n (.damaged b p q)).dropIndexOf n) (b := b)
      (f := fun x => { x with damaged := x.damaged + 1 }) rfl rfl) hs
  halt s _ _ hs := h.unreported s _ ⟨⟨rfl, rfl, rfl⟩, rfl, rfl, rfl, rfl, id, fun _ => ⟨rfl, rfl, rfl, rfl⟩⟩ hs
  create s n rest b p _ _ _ hs := by
    rw [createRecord_eq]
    exact h.unreported s _ (unreported_modifyBoard (f := fun x => x.lodged (s.after s.stallLimit)) (b := b) rfl rfl) hs
  rewrite s _ _ _ _ _ _ _ _ _ _ hs :=
    h.unreported s _ ⟨⟨rfl, rfl, rfl⟩, rfl, rfl, rfl, rfl, id, fun _ => ⟨rfl, rfl, rfl, rfl⟩⟩ hs
  retire s n hs := h.unreported s _ (unreported_retire s n) hs
  sample s _ _ _ hs := h.unreported s _ (unreported_modifyBoard rfl rfl) hs
  releases s _ hs := h.unreported s _ (unreported_modifyBoard rfl rfl) hs
  progress s _ hs := h.unreported s _ (unreported_modifyBoard rfl rfl) hs
  group := h.group
  thresholds := h.thresholds
  guard := h.guard
  clear := h.clear
  startTest s inject hs := by
    unfold State.startTest
    rw [verifyGroups_eq]
    exact h.unreported s _ ⟨⟨rfl, rfl, rfl⟩, rfl, rfl, rfl, rfl, allValid_of_verify rfl, fun _ => ⟨rfl, rfl, rfl, rfl⟩⟩ hs
  startPass s _ hs := by
    rw [startPass_eq]
    exact h.unreported s _ ⟨⟨rfl, rfl, rfl⟩, rfl, rfl, rfl, rfl, allValid_of_verify rfl, fun _ => ⟨rfl, rfl, rfl, rfl⟩⟩ hs
  testFree s _ _ hs := by
    obtain ⟨_, _, _, _, _, _, _, _, heq⟩ := testFreeSlot_eq s s.sweepPosition
    rw [heq]
    exact h.unreported s _ ⟨⟨rfl, rfl, rfl⟩, rfl, rfl, rfl, rfl, id, fun _ => ⟨rfl, rfl, rfl, rfl⟩⟩ hs
  moveOn s began _ _ hs := by
    obtain ⟨_, _, _, _, heq⟩ := afterVisit_eq began s
    rw [heq]
    exact h.unreported s _ ⟨⟨rfl, rfl, rfl⟩, rfl, rfl, rfl, rfl, id, fun _ => ⟨rfl, rfl, rfl, rfl⟩⟩ hs
  grace s b hb hs := by
    refine h.unreported s _ ?_ hs
    rw [expireGrace_eq s b hb]
    refine ⟨⟨rfl, rfl, rfl⟩, rfl, rfl, rfl, rfl, id, fun c => ?_⟩
    by_cases hc : c = b
    · subst hc
      simp [Board.graced, hb, BoardState.isActive, BoardState.isDoubtful, BoardState.isDown]
    · simp [hc]
  pulse s _ _ hs := h.unreported s _ (unreported_modifyBoard (s := s.modifyLine _ _) rfl rfl) hs
  lost s _ _ hs := h.unreported s _ (unreported_modifyBoard (s := s.modifyLine _ _) rfl rfl) hs
  stall s _ _ hs := h.unreported s _ (unreported_modifyBoard rfl rfl) hs

end Sys2Proof.Machine

/-! SUPPORT. The pending set settled: it is empty or a condition of R119 fails whenever a command ends, and the statement about
the Verdict Unit. -/

namespace Sys2Proof.Machine

/-! ## What is counted, under every operation -/

theorem counted_guard {s : State} {f : Guard} (hf : checkGuard s.down f = none) (hs : s.Counted) :
    (s.modifyGroups fun g => { g with guard := .written f }).reevaluateCommon.Counted := by
  obtain ⟨hlegal, ⟨ha, hd, hw, -⟩, -, hqueue⟩ := hs
  let u := s.modifyGroups fun g => { g with guard := .written f }
  obtain ⟨hboards, -, hcauses, -, -, hactive, hdoubtful, hdown, hcommon⟩ := reevaluateCommon_reads u
  obtain ⟨hmax, hpct, -, hth⟩ := frame_maxDown (frame_reevaluateCommon u)
  have hcount (p : BoardState → Bool) : u.reevaluateCommon.countBoards p = s.countBoards p :=
    countBoards_congr p fun b => by rw [hboards]; rfl
  refine ⟨hth ▸ hlegal, ⟨?_, ?_, ?_, ?_⟩, ?_, fun b => ?_⟩
  · rw [hactive, hcount]; exact ha
  · rw [hdoubtful, hcount]; exact hd
  · rw [hdown, hcount]; exact hw
  · rw [hcommon]
    unfold State.commonNow
    rw [hactive, hdoubtful, hpct]
  · rw [hdown, hmax]
    show s.down ≤ clamp f.maxDown.toNat 1 16
    simp only [checkGuard, firstFailure, firstOffending, inRange, List.find?] at hf
    unfold clamp
    grind
  · rw [hboards, hcauses]
    exact hqueue b

theorem custodyReset_causes (s : State) (b : Bd) : s.custodyReset.cause b = none := by
  simp [State.custodyReset, State.restartSweep, State.countAnew, State.cause]

/-- After a custody reset every enrolled board is WARMING and every other one ABSENT (R92). -/
theorem custodyReset_state (s : State) (b : Bd) :
    (s.custodyReset.board b).state = if (s.board b).state = .absent then .absent else .warming := by
  rw [(custodyReset_reads s b).1, Board.custodyReset]
  split <;> simp [Board.warmed, *]

theorem custodyReset_counted {s : State} (hs : s.Counted) : s.custodyReset.Counted := by
  obtain ⟨hlegal, -, -, hqueue⟩ := hs
  have hcounts : s.custodyReset.doubtful = 0 ∧ s.custodyReset.commonCause = false := ⟨rfl, rfl⟩
  have hnone (p : BoardState → Bool) (ha : p .absent = false) (hw : p .warming = false) : s.custodyReset.countBoards p = 0 := by
    unfold State.countBoards
    simp only [custodyReset_state, List.length_eq_zero_iff, List.filter_eq_nil_iff]
    intro b _
    split <;> simp [ha, hw]
  refine ⟨hlegal, ⟨?_, (hnone _ rfl rfl).symm, (hnone _ rfl rfl).symm, by simp [State.commonNow, hcounts, commonHolds]⟩, Nat.zero_le _, fun b => ⟨?_, fun h => ?_⟩⟩
  · show (allBoards.filter fun b => decide ((s.custodyReset.board b).state ≠ .absent)).length = _
    unfold State.countBoards
    simp only [custodyReset_state]
    congr 2
    funext b
    by_cases h : (s.board b).state = .absent <;> simp [h, BoardState.isActive]
  · rw [custodyReset_causes, (custodyReset_reads s b).1, Board.custodyReset]
    split
    next h => rw [(cause_none_of_not_doubtful hqueue (by rw [h]; nofun)).2]; rfl
    next => rfl
  · rw [(custodyReset_reads s b).1, Board.custodyReset] at h
    split at h
    next h' => rw [(cause_none_of_not_doubtful hqueue (by rw [h']; nofun)).2] at h; exact absurd h nofun
    next => exact absurd h nofun

theorem reportKept_counted : ReportKept State.Counted where
  unreported _ _ h hs := h.counted hs
  charge s b k hs := verdictKept_counted.charge s b k ((unreported_modifyBoard rfl rfl).counted hs) hs
  credit s b hs := verdictKept_counted.credit s b ((unreported_modifyBoard rfl rfl).counted hs)
  enrol s b hb hs := verdictKept_counted.afterExit s _ (enterWarming_counted (by rw [hb]; nofun) hs)
  reinstate s b hb hs := verdictKept_counted.reconsider _ (enterWarming_counted (by rw [hb]; nofun) hs)
  retireActive s b hb hs := verdictKept_counted.afterExit s _
    (leaveService_counted (by rcases hb with hb | hb <;> rw [hb] <;> nofun) hs)
  retireDrained s b hb hs := verdictKept_counted.reconsider _ (leaveService_counted (by rw [hb]; nofun) hs)
  declare s b _ hd hs := verdictKept_counted.afterExit s _ (grantVerdict_counted b _ hd hs)
  absolve s _ _ hs := verdictKept_counted.afterExit s _ (absolveBoard_counted hs)
  group s f hf hs := verdictKept_counted.afterSetgroup _
    (hs.congr rfl (by simp [State.maxDown, State.modifyGroups, hf]) (by simp [State.ccPct, State.modifyGroups, hf])
      ⟨rfl, rfl, rfl⟩ rfl fun _ => ⟨rfl, rfl, rfl, rfl, rfl⟩)
  thresholds s f hf hs := by
    refine verdictKept_counted.afterSetgroup _ (verdictKept_counted.reevaluateBoards allBoards _ ?_)
    exact ⟨thresholdsLegal_of_check hf, hs.2⟩
  guard s f hf hs := verdictKept_counted.reconsider _ (counted_guard hf hs)
  clear s hs := custodyReset_counted hs

/-! ## The pending set settled (R121) -/

/-- The pending set is empty unless a condition of R119 fails (R121). -/
def State.Settled (s : State) : Prop := (∀ b, s.cause b = none) ∨ s.withholdCause ≠ none

theorem settled_iff (s : State) : s.Settled ↔ (s.pendingBoards ≠ [] → s.withholdCause ≠ none) := by
  have hempty : s.pendingBoards = [] ↔ ∀ b, s.cause b = none := by
    simp [State.pendingBoards, List.filter_eq_nil_iff, mem_allBoards]
  rw [State.Settled, ← hempty]
  tauto

theorem withholdCause_eq_none_iff (s : State) :
    s.withholdCause = none ↔ s.commonCause = false ∧ s.allValid = true ∧ s.down < s.maxDown := by
  unfold State.withholdCause
  cases s.commonCause <;> cases s.allValid <;> simp

theorem settled_of_fewer {s t : State} (hcauses : ∀ b, s.cause b = none → t.cause b = none)
    (hcommon : t.commonCause = false → s.commonCause = false) (hvalid : t.allValid = true → s.allValid = true)
    (hdown : t.down < t.maxDown → s.down < s.maxDown) (hs : s.Settled) : t.Settled := by
  refine hs.imp (fun h b => hcauses b (h b)) fun h ht => h ?_
  rw [withholdCause_eq_none_iff] at ht ⊢
  obtain ⟨hc, hv, hd⟩ := ht
  exact ⟨hcommon hc, hvalid hv, hdown hd⟩

theorem settled_reconsider (s : State) : s.reconsider.Settled := reconsider_ends s

/-- A change within VerdictFrame that adds no pending board and takes no board off the down count leaves the pending set settled,
once an exit from the common-cause state has been reconsidered (R121). -/
theorem settled_afterExit {s t : State} (hframe : VerdictFrame s t) (hdown : s.down ≤ t.down)
    (hcauses : ∀ b, s.cause b = none → t.cause b = none) (hs : s.Settled) : (s.afterExit t).Settled := by
  unfold State.afterExit
  split
  next => exact settled_reconsider t
  next hexit =>
    obtain ⟨hmax, -, hvalid, -⟩ := frame_maxDown hframe
    refine settled_of_fewer hcauses (fun hc => ?_) (fun h => hvalid ▸ h) (fun h => by omega) hs
    simpa [hc] using hexit

/-- After a SETGROUP either every group is valid and the pending set has been reconsidered, or a group is invalid (R121). -/
theorem settled_afterSetgroup (s : State) : s.afterSetgroup.Settled := by
  unfold State.afterSetgroup
  split
  next => exact settled_reconsider s
  next h => exact .inr fun hw => h ((withholdCause_eq_none_iff s).1 hw).2.1

theorem settled_requestIfDue {s : State} (b : Bd) (hs : s.Settled) : (s.requestIfDue b).Settled := by
  unfold State.requestIfDue State.verdictRequest
  split
  next =>
    split
    next hw =>
      have hnone := hs.resolve_right fun h => h hw
      obtain ⟨hothers, -, -, hself, -⟩ := grantVerdict_boards s b .automatic
      left
      intro c
      by_cases hc : c = b
      · exact hc ▸ hself
      · exact (hothers c hc).2.2.trans (hnone c)
    next c hw =>
      refine .inr ?_
      show s.withholdCause ≠ none
      rw [hw]
      nofun
  next => exact hs

theorem setBoardState_down (s : State) (b : Bd) (new : BoardState) :
    (s.setBoardState b new).down = moveCount s.down (s.board b).state.isDown new.isDown :=
  (reportState_reads _ _ _).2.2.2.2.2.2.2

theorem settled_setBoardState {s : State} {b : Bd} {new : BoardState} (hb : (s.board b).state.isDown = false) (hs : s.Settled)
    (f : Latches → Latches) : (s.afterExit ((s.setBoardState b new).modifyLatches f)).Settled := by
  refine settled_afterExit ((frame_setBoardState s b new).trans (frame_modifyLatches _ f)) ?_ (fun c hc => ?_) hs
  · show s.down ≤ (s.setBoardState b new).down
    rw [setBoardState_down, hb]
    exact Nat.le_add_right _ _
  · exact ((setBoardState_reads s b new).2.2.1 c).trans hc

theorem settled_doubtIfAlerted {s : State} (b : Bd) (i : DoubtItem) (hs : s.Settled) : (s.doubtIfAlerted b i).Settled := by
  unfold State.doubtIfAlerted
  split
  next hb => exact settled_setBoardState (by rw [hb.1]; rfl) hs _
  next => exact hs

theorem settled_backToLive {s : State} {b : Bd} (hb : s.returnsToLive b = true) (hs : s.Settled) : (s.backToLive b).Settled := by
  have hstate : (s.board b).state = .doubtful := (of_decide_eq_true hb).1
  exact settled_setBoardState (by rw [hstate]; rfl) hs id

theorem settled_clearPending {s : State} (b : Bd) (hs : s.Settled) : (s.clearPending b).Settled := by
  refine settled_of_fewer (s := s) (t := s.clearPending b) (fun c hc => ?_) id id id hs
  by_cases hcb : c = b <;> simp [State.clearPending, hcb, hc]

theorem settled_leavePendingIfBelow {s : State} (b : Bd) (hs : s.Settled) : (s.leavePendingIfBelow b).Settled := by
  unfold State.leavePendingIfBelow
  split
  · exact settled_clearPending b hs
  · exact hs

theorem settled_latchIfHeartbeat {s : State} (b : Bd) (k : Evidence) (hs : s.Settled) : (s.latchIfHeartbeat b k).Settled := by
  cases k <;> exact hs

theorem settled_charge {s : State} (b : Bd) (k : Evidence) (hs : s.Settled) : (s.charge b k).Settled := by
  have hraised : (s.raiseScore b k).Settled := hs
  have happly : (s.applyCharge b k).Settled :=
    settled_latchIfHeartbeat b k (settled_requestIfDue b (settled_doubtIfAlerted b _ hraised))
  unfold State.charge
  split
  case h_1 | h_2 => exact happly
  all_goals exact hs

theorem settled_credit {s : State} (b : Bd) (hs : s.Settled) : (s.credit b).Settled := by
  have hleft := settled_leavePendingIfBelow (s := s.payDown b) b hs
  unfold State.credit State.settleCredit
  split
  next hb => exact settled_backToLive hb hleft
  next => exact hleft

theorem grantVerdict_down (s : State) (b : Bd) (path : VerdictPath) :
    (s.grantVerdict b path).down = moveCount s.down (s.board b).state.isDown true := by
  obtain ⟨-, hstate, -⟩ := silence_reads s b
  have hsilent : ((((s.silence b).reportState (s.board b).state .silent).latchVerdict b path).board b).state = .silent :=
    (congrArg Board.state ((reportState_reads _ _ _).1 b)).trans hstate
  obtain ⟨_, _, _, _, _, _, heq⟩ := holdRecords_eq _ b hsilent
  unfold State.grantVerdict
  rw [heq]
  exact (reportState_reads (s.silence b) _ _).2.2.2.2.2.2.2

theorem settled_absolve {s : State} {b : Bd} (hb : (s.board b).state = .live ∨ (s.board b).state = .doubtful) (hs : s.Settled) :
    (s.afterExit (s.absolveBoard b)).Settled := by
  let u := (s.modifyBoard b fun x => { x with score := 0 }).clearPending b
  have hstate : (u.board b).state.isDown = false := by rcases hb with hb | hb <;> simp [u, State.clearPending, hb, BoardState.isDown]
  refine settled_afterExit (frame_absolveBoard s b) ?_ (fun c hc => ?_) hs
  · show s.down ≤ (u.setBoardState b .live).down
    rw [setBoardState_down, hstate]
    exact Nat.le_add_right _ _
  · refine ((setBoardState_reads u b .live).2.2.1 c).trans ?_
    by_cases hcb : c = b <;> simp [u, State.clearPending, hcb, hc]

theorem reportKept_settled : ReportKept State.Settled where
  unreported s t h hs := by
    obtain ⟨⟨-, -, hdown⟩, hcommon, hwithheld, -, hguard, hvalid, -⟩ := h
    have hmax : t.maxDown = s.maxDown := by simp [State.maxDown, hguard]
    exact settled_of_fewer (fun b hb => by rw [State.cause, hwithheld]; exact hb) (fun h => hcommon ▸ h) hvalid
      (fun h => by omega) hs
  charge _ b k hs := settled_charge b k hs
  credit _ b hs := settled_credit b hs
  enrol s b hb hs := by
    refine settled_afterExit (frame_enterWarming s b) ?_ (fun c hc => ?_) hs
    · rw [State.enterWarming, (reportState_reads _ _ _).2.2.2.2.2.2.2, hb]
      exact le_rfl
    · exact ((reportState_reads _ _ _).2.2.1 c).trans hc
  reinstate _ _ _ _ := settled_reconsider _
  retireActive s b hb hs := by
    have hstate : (s.board b).state.isDown = false := by rcases hb with hb | hb <;> rw [hb] <;> rfl
    refine settled_afterExit (frame_leaveService s b) ?_ (fun c hc => ?_) hs
    · rw [State.leaveService, (reportState_reads _ _ _).2.2.2.2.2.2.2, hstate]
      exact le_rfl
    · exact ((reportState_reads _ _ _).2.2.1 c).trans hc
  retireDrained _ _ _ _ := settled_reconsider _
  declare s b hb _ hs := by
    have hstate : (s.board b).state.isDown = false := by
      revert hb
      cases (s.board b).state <;> decide
    refine settled_afterExit (frame_grantVerdict s b _) ?_ (fun c hc => ?_) hs
    · rw [grantVerdict_down, hstate]
      exact Nat.le_add_right _ _
    · obtain ⟨hothers, -, -, hself, -⟩ := grantVerdict_boards s b .declared
      by_cases hcb : c = b
      · exact hcb ▸ hself
      · exact (hothers c hcb).2.2.trans hc
  absolve _ _ hb hs := settled_absolve hb hs
  group _ _ _ _ := settled_afterSetgroup _
  thresholds _ _ _ _ := settled_afterSetgroup _
  guard _ _ _ _ := settled_reconsider _
  clear s _ := .inl fun b => custodyReset_causes s b

/-! ## The Verdict Unit -/

theorem verdictWf_iff (s : State) :
    ThresholdsLegal s.effThresholds ∧ s.VerdictWf ↔ s.Counted ∧ s.Settled := by
  rw [settled_iff]
  constructor
  · rintro ⟨hlegal, ha, hd, hw, hquota, hc, hcauses, hpending, hsettled⟩
    exact ⟨⟨hlegal, ⟨ha, hd, hw, hc⟩, hquota, fun b => ⟨hcauses b, hpending b⟩⟩, hsettled⟩
  · rintro ⟨⟨hlegal, ⟨ha, hd, hw, hc⟩, hquota, hqueue⟩, hsettled⟩
    exact ⟨hlegal, ha, hd, hw, hquota, hc, fun b => (hqueue b).1, fun b => (hqueue b).2, hsettled⟩

/-- A part in pin reset has no board in service and every group marked valid (R132, R154). -/
theorem verdictWf_pinReset (s : State) : ThresholdsLegal s.pinReset.effThresholds ∧ s.pinReset.VerdictWf := by
  show ThresholdsLegal State.held.effThresholds ∧ State.held.VerdictWf
  unfold ThresholdsLegal State.VerdictWf
  decide +kernel

theorem counted_settled_tick {s : State} (hs : s.Counted ∧ s.Settled) : s.tick.Counted ∧ s.tick.Settled := hs

/-- Settles O55: what is counted and the settled pending set are kept by every operation. -/
theorem verdictUnitKept : Obligations.VerdictUnitKept := by
  intro s t hlegal hs ht
  have h := reportKept_counted.opKept.and reportKept_settled.opKept
  refine (verdictWf_iff t).2 (h.step ?_ (fun s => (verdictWf_iff _).1 (verdictWf_pinReset s)) (fun s hs => ?_)
    (fun s hs => counted_settled_tick (h.endTu s hs)) ((verdictWf_iff s).1 ⟨hlegal, hs⟩) ht)
  · rintro s t ⟨_, _, _, _, _, _, _, rfl⟩ hs
    exact hs
  · unfold State.releaseReset
    split <;> exact hs

end Sys2Proof.Machine

/-! SUPPORT. The Custody Table's structures in agreement: what a slot's change from one kind to another asks of the index, the
free list, the unattributed set and the custody lists, and that each operation of the table does just that. -/

namespace Sys2Proof.Machine

/-! ## The table and the states of the boards -/

/-- Board b's custody list holds its slots once, with the counts reported to the Board Table (R9). -/
def State.Listed (s : State) (b : Bd) : Prop :=
  (s.list b).Nodup ∧ (∀ n, n ∈ s.list b ↔ s.linkedTo b n = true) ∧ (s.board b).outstanding = (s.list b).length
    ∧ (s.board b).damaged = ((s.list b).filter s.isDamagedSlot).length

/-- Board b's list is empty in ABSENT and DRAINED and not empty in SILENT (R11, R123, R126). -/
def State.StateFits (s : State) (b : Bd) : Prop :=
  ((s.board b).state = .absent ∨ (s.board b).state = .drained → s.list b = [])
    ∧ ((s.board b).state = .silent → s.list b ≠ [])

/-- The table's structures agree, whatever states the boards are in. -/
def State.TableFits (s : State) : Prop := s.StoresWf ∧ s.IndexWf ∧ s.FreeWf ∧ ∀ b, s.Listed b

theorem tableWf_iff (s : State) : s.TableWf ↔ s.TableFits ∧ ∀ b, s.StateFits b := by
  constructor
  · rintro ⟨hstores, hindex, hfree, hlists⟩
    refine ⟨⟨hstores, hindex, hfree, fun b => ?_⟩, fun b => ?_⟩
    · obtain ⟨hnodup, hlinked, hout, hdamaged, -, -⟩ := hlists b
      exact ⟨hnodup, hlinked, hout, hdamaged⟩
    · obtain ⟨-, -, -, -, hempty, hheld⟩ := hlists b
      exact ⟨hempty, hheld⟩
  · rintro ⟨⟨hstores, hindex, hfree, hlisted⟩, hfits⟩
    refine ⟨hstores, hindex, hfree, fun b => ?_⟩
    obtain ⟨hnodup, hlinked, hout, hdamaged⟩ := hlisted b
    exact ⟨hnodup, hlinked, hout, hdamaged, hfits b⟩

/-- A board in a state that is neither ABSENT, SILENT nor DRAINED is fitted by any list. -/
theorem stateFits_of_active {s : State} {b : Bd} (h : (s.board b).state.isActive = true) : s.StateFits b := by
  unfold State.StateFits
  revert h
  cases (s.board b).state <;> simp [BoardState.isActive]

/-! ## Nothing of the table changed -/

/-- The stores, lists and counts of t are those of s. -/
def TableSame (s t : State) : Prop :=
  t.slots = s.slots ∧ t.index = s.index ∧ t.free = s.free ∧ t.lists = s.lists ∧ t.unattributed = s.unattributed
    ∧ t.occupancy = s.occupancy
    ∧ ∀ b, (t.board b).outstanding = (s.board b).outstanding ∧ (t.board b).damaged = (s.board b).damaged

theorem TableSame.tableFits {s t : State} (h : TableSame s t) (hs : s.TableFits) : t.TableFits := by
  obtain ⟨hslots, hindex, hfree, hlists, hun, hocc, hcounts⟩ := h
  have hlinked : t.linkedTo = s.linkedTo := by
    funext b n
    simp only [State.linkedTo, State.slot, hslots]
  have hdamaged : t.isDamagedSlot = s.isDamagedSlot := by
    funext n
    simp only [State.isDamagedSlot, State.slot, hslots]
  have hholds : t.holdsRecord = s.holdsRecord := by
    funext n
    simp only [State.holdsRecord, State.slot, hslots]
  unfold State.TableFits State.StoresWf State.IndexWf State.FreeWf State.Listed at *
  simp only [State.slot, State.list, hslots, hindex, hfree, hlists, hun, hocc, hlinked, hdamaged, hholds, hcounts] at hs ⊢
  exact hs

/-- The table unchanged and each board in its old state, in an active one, or ABSENT with nothing outstanding. -/
def TableKeeps (s t : State) : Prop :=
  TableSame s t ∧ ∀ b, (t.board b).state = (s.board b).state ∨ (t.board b).state.isActive = true
    ∨ (t.board b).state = .absent ∧ (s.board b).outstanding = 0

theorem TableKeeps.tableWf {s t : State} (h : TableKeeps s t) (hs : s.TableWf) : t.TableWf := by
  obtain ⟨hsame, hstates⟩ := h
  obtain ⟨hfits, hboards⟩ := (tableWf_iff s).1 hs
  refine (tableWf_iff t).2 ⟨hsame.tableFits hfits, fun b => ?_⟩
  have hlist : t.list b = s.list b := by simp only [State.list, hsame.2.2.2.1]
  rcases hstates b with hstate | hactive | ⟨habsent, hout⟩
  · unfold State.StateFits
    rw [hstate, hlist]
    exact hboards b
  · exact stateFits_of_active hactive
  · have hempty : s.list b = [] := List.length_eq_zero_iff.1 ((hfits.2.2.2 b).2.2.1.symm.trans hout)
    exact ⟨fun _ => hlist.trans hempty, fun h => absurd (habsent.symm.trans h) nofun⟩

/-! ## The key index (R5) -/

theorem indexWf_congr {s t : State} (hindex : t.index = s.index) (hholds : ∀ m, t.holdsRecord m = s.holdsRecord m)
    (hs : s.IndexWf) : t.IndexWf := by
  unfold State.IndexWf
  simp only [hindex, hholds]
  exact hs

theorem mapFind_dropIndex {index : List (Nat × Nat)} (hm : mapWf index = true) (n k m : Nat) :
    mapFind k (index.filter fun e => e.2 != n) = some m ↔ mapFind k index = some m ∧ m ≠ n := by
  rw [mapFind_filter (fun j => j != n) k index hm, Option.filter_eq_some_iff]
  simp

/-- A slot that no longer holds a record, and whose entry has gone, leaves the index as it should be (R6). -/
theorem indexWf_drop {s t : State} {n : Nat} (hm : mapWf s.index = true) (hindex : t.index = s.index.filter fun e => e.2 != n)
    (hholds : ∀ m, t.holdsRecord m = true ↔ s.holdsRecord m = true ∧ m ≠ n) (hs : s.IndexWf) : t.IndexWf := by
  obtain ⟨hentries, hinjective⟩ := hs
  refine ⟨fun m => ?_, fun j k m hj hk => ?_⟩
  · simp only [hholds, hindex, mapFind_dropIndex hm, hentries, exists_and_right]
  · rw [hindex, mapFind_dropIndex hm] at hj hk
    exact hinjective j k m hj.1 hk.1

/-- A slot that holds no record has no entry to lose. -/
theorem dropIndex_of_not_holds {s : State} {n : Nat} (hm : mapWf s.index = true) (hs : s.IndexWf) (hn : s.holdsRecord n = false) :
    (s.index.filter fun e => e.2 != n) = s.index := by
  refine List.filter_eq_self.2 fun e he => ?_
  have hheld : s.holdsRecord e.2 = true := (hs.1 e.2).2 ⟨e.1, mapFind_of_mem hm he⟩
  simp only [bne_iff_ne, ne_eq]
  rintro rfl
  exact Bool.false_ne_true (hn.symm.trans hheld)

/-- A new record's key, which the index did not hold, names the new record (R5, R12). -/
theorem indexWf_put {s t : State} {n k : Nat} (hindex : t.index = mapPut k n s.index) (hk : mapFind k s.index = none)
    (hn : s.holdsRecord n = false) (hholds : ∀ m, t.holdsRecord m = true ↔ s.holdsRecord m = true ∨ m = n) (hs : s.IndexWf) :
    t.IndexWf := by
  obtain ⟨hentries, hinjective⟩ := hs
  have hnone : ∀ j, mapFind j s.index ≠ some n := fun j hj =>
    Bool.false_ne_true (hn.symm.trans ((hentries n).2 ⟨j, hj⟩))
  refine ⟨fun m => ?_, fun i j m hi hj => ?_⟩
  · simp only [hholds, hindex, mapFind_mapPut, hentries]
    constructor
    · rintro (⟨j, hj⟩ | rfl)
      · refine ⟨j, ?_⟩
        have hjk : j ≠ k := by
          rintro rfl
          exact absurd (hk.symm.trans hj) nofun
        rw [if_neg hjk, hj]
      · exact ⟨k, by simp⟩
    · rintro ⟨j, hj⟩
      split_ifs at hj with hjk
      · exact .inr (Option.some.inj hj).symm
      · exact .inl ⟨j, hj⟩
  · rw [hindex, mapFind_mapPut] at hi hj
    split_ifs at hi hj with hik hjk hjk
    · exact hik.trans hjk.symm
    · exact absurd (hj.trans hi.symm) (hnone j)
    · exact absurd (hi.trans hj.symm) (hnone i)
    · exact hinjective i j m hi hj

/-! ## The custody lists (R9) -/

/-- A list whose slots are linked and DAMAGED as before, with its counts, is as it was. -/
theorem listed_congr {s t : State} {b : Bd} (hlist : t.list b = s.list b)
    (hcounts : (t.board b).outstanding = (s.board b).outstanding ∧ (t.board b).damaged = (s.board b).damaged)
    (hlinked : ∀ m, t.linkedTo b m = s.linkedTo b m) (hdamaged : ∀ m, s.linkedTo b m = true → t.isDamagedSlot m = s.isDamagedSlot m)
    (hs : s.Listed b) : t.Listed b := by
  obtain ⟨hnodup, hmem, hout, hdam⟩ := hs
  unfold State.Listed
  rw [hlist, hcounts.1, hcounts.2]
  refine ⟨hnodup, fun m => by rw [hlinked]; exact hmem m, hout, hdam.trans (congrArg List.length ?_)⟩
  exact (List.filter_congr fun m hm => hdamaged m ((hmem m).1 hm)).symm

/-! ## The free list and the unattributed set (R7, R10) -/

/-- With the same slots FREE and the same unattributed the free list and the unattributed set stand. -/
theorem freeWf_congr {s t : State} (hsame : t.free = s.free ∧ t.unattributed = s.unattributed ∧ t.occupancy = s.occupancy)
    (hfree : ∀ m, t.slot m = none ↔ s.slot m = none)
    (hun : ∀ m, t.slot m = some .unattributed ↔ s.slot m = some .unattributed) (hs : s.FreeWf) : t.FreeWf := by
  obtain ⟨hf, hu, ho⟩ := hsame
  unfold State.FreeWf
  simp only [hf, hu, ho, hfree, hun]
  exact hs

/-! ## A record rewritten, and a record made DAMAGED (R13, R15) -/

theorem writeRecord_tableFits {s : State} {n : Nat} {st : Stage} {b : Bd} {p : Payload} {parity : Bool}
    (hslot : s.slot n = some (.record st b p parity)) (st' : Stage) (q : Payload) (hs : s.TableFits) :
    (s.writeRecord n st' b q).TableFits := by
  obtain ⟨⟨hslots, hindex, hbelow⟩, hindexed, hfree, hlisted⟩ := hs
  let t := s.writeRecord n st' b q
  have hread (m : Nat) : t.slot m = if m = n then some (.record st' b q (parityOf q)) else s.slot m :=
    State.slot_writeRecord s n m st' b q
  have hholds (m : Nat) : t.holdsRecord m = s.holdsRecord m := by
    by_cases hm : m = n <;> simp [State.holdsRecord, hread, hm, hslot]
  have hlinked (c : Bd) (m : Nat) : t.linkedTo c m = s.linkedTo c m := by
    by_cases hm : m = n <;> simp [State.linkedTo, hread, hm, hslot]
  have hdamaged (m : Nat) : t.isDamagedSlot m = s.isDamagedSlot m := by
    by_cases hm : m = n <;> simp [State.isDamagedSlot, hread, hm, hslot, Slot.isDamaged]
  refine ⟨⟨mapWf_mapPut _ _ _ hslots, hindex, fun m hm => ?_⟩, indexWf_congr (s := s) (t := t) rfl hholds hindexed,
    freeWf_congr (s := s) (t := t) ⟨rfl, rfl, rfl⟩ (fun m => ?_) (fun m => ?_) hfree,
    fun c => listed_congr (s := s) (t := t) rfl ⟨rfl, rfl⟩ (hlinked c) (fun m _ => hdamaged m) (hlisted c)⟩
  · by_cases hmn : m = n
    · exact hmn ▸ hbelow n (by simp [hslot])
    · exact hbelow m (by simpa [hmn] using hm)
  · by_cases hmn : m = n <;> simp [hread, hmn, hslot]
  · by_cases hmn : m = n <;> simp [hread, hmn, hslot]

theorem not_linkedTo_of_record {s : State} {n : Nat} {st : Stage} {b c : Bd} {p : Payload} {parity : Bool}
    (hslot : s.slot n = some (.record st b p parity)) (hc : c ≠ b) : s.linkedTo c n = false := by
  simp [State.linkedTo, hslot, Ne.symm hc]

theorem damageRecord_tableFits {s : State} {n : Nat} {st : Stage} {b : Bd} {p : Payload} {q : Bool}
    (hslot : s.slot n = some (.record st b p q)) (hs : s.TableFits) : (s.damageRecord n b p q).TableFits := by
  obtain ⟨⟨hslots, hindex, hbelow⟩, hindexed, hfree, hlisted⟩ := hs
  let t := s.damageRecord n b p q
  have hread (m : Nat) : t.slot m = if m = n then some (.damaged b p q) else s.slot m := damageRecord_slot s n m b p q
  have hholds (m : Nat) : t.holdsRecord m = true ↔ s.holdsRecord m = true ∧ m ≠ n := by
    by_cases hm : m = n <;> simp [State.holdsRecord, hread, hm]
  have hlinked (c : Bd) (m : Nat) : t.linkedTo c m = s.linkedTo c m := by
    by_cases hm : m = n <;> simp [State.linkedTo, hread, hm, hslot]
  have hdamaged (m : Nat) (hm : m ≠ n) : t.isDamagedSlot m = s.isDamagedSlot m := by
    simp [State.isDamagedSlot, hread, hm]
  refine ⟨⟨mapWf_mapPut _ _ _ hslots, mapWf_filter _ _ hindex, fun m hm => ?_⟩, indexWf_drop (t := t) hindex rfl hholds hindexed,
    freeWf_congr (s := s) (t := t) ⟨rfl, rfl, rfl⟩ (fun m => ?_) (fun m => ?_) hfree, fun c => ?_⟩
  · by_cases hmn : m = n
    · exact hmn ▸ hbelow n (by simp [hslot])
    · exact hbelow m (by simpa [damageRecord_slot, hmn] using hm)
  · by_cases hmn : m = n <;> simp [hread, hmn, hslot]
  · by_cases hmn : m = n <;> simp [hread, hmn, hslot]
  · have hboard := damageRecord_board s n b c p q
    by_cases hc : c = b
    · subst hc
      rw [if_pos rfl] at hboard
      obtain ⟨hl, hm, hout, hdam⟩ := hlisted c
      have hin : n ∈ s.list c := (hm n).2 (by simp [State.linkedTo, hslot])
      refine ⟨hl, fun m => ?_, by rw [hboard]; exact hout, ?_⟩
      · rw [hlinked]
        exact hm m
      · have hmove := countP_move hl hin hdamaged
        have hbefore : s.isDamagedSlot n = false := by simp [State.isDamagedSlot, hslot, Slot.isDamaged]
        have hafter : t.isDamagedSlot n = true := by simp [State.isDamagedSlot, hread, Slot.isDamaged]
        rw [hbefore, hafter] at hmove
        rw [← List.countP_eq_length_filter] at hdam ⊢
        rw [hboard]
        exact (congrArg (· + 1) hdam).trans hmove.symm
    · rw [if_neg hc] at hboard
      refine listed_congr (s := s) (t := t) rfl ⟨by rw [hboard], by rw [hboard]⟩ (hlinked c) (fun m hm => hdamaged m ?_) (hlisted c)
      rintro rfl
      exact Bool.false_ne_true ((not_linkedTo_of_record hslot hc).symm.trans hm)

/-! ## A record created (R12) -/

theorem createRecord_tableFits {s : State} {n : Nat} {rest : List Nat} (b : Bd) {p : Payload} (hfree : s.free = n :: rest)
    (hkey : s.lookupKey p.key = none) (hs : s.TableFits) : (s.createRecord n rest b p).TableFits := by
  obtain ⟨⟨hslots, hindex, hbelow⟩, hindexed, ⟨hnodup, hmem, hasc, hun, hocc⟩, hlisted⟩ := hs
  let t := s.createRecord n rest b p
  obtain ⟨hread, hlists, hrest, hput, hoccupancy⟩ := createRecord_reads s n rest b p
  obtain ⟨hn, hslot⟩ : n < Config.recordSlots ∧ s.slot n = none := (hmem n).1 (by simp [hfree])
  have heq := createRecord_eq s n rest b p
  have hholds (m : Nat) : t.holdsRecord m = true ↔ s.holdsRecord m = true ∨ m = n := by
    by_cases hm : m = n <;> simp [State.holdsRecord, t, hread, hm]
  have hfresh : s.holdsRecord n = false := by simp [State.holdsRecord, hslot]
  have hunlinked (c : Bd) : s.linkedTo c n = false := by simp [State.linkedTo, hslot]
  have hlinked (c : Bd) (m : Nat) (hm : m ≠ n) : t.linkedTo c m = s.linkedTo c m := by
    simp [State.linkedTo, t, hread, hm]
  have hlinkedn (c : Bd) : t.linkedTo c n = true ↔ c = b := by simp [State.linkedTo, t, hread, eq_comm]
  have hdamaged (m : Nat) (hm : m ≠ n) : t.isDamagedSlot m = s.isDamagedSlot m := by
    simp [State.isDamagedSlot, t, hread, hm]
  have hnotin (c : Bd) : n ∉ s.list c := fun h => by
    simpa [hunlinked] using ((hlisted c).2.1 n).1 h
  obtain ⟨hnrest, hrestnodup⟩ := List.nodup_cons.1 (hfree ▸ hnodup)
  refine ⟨⟨?_, ?_, fun m hm => ?_⟩, indexWf_put hput hkey hfresh hholds hindexed, ⟨?_, fun m => ?_, ?_, fun m => ?_, ?_⟩, fun c => ?_⟩
  · rw [heq]
    exact mapWf_mapPut _ _ _ hslots
  · rw [heq]
    exact mapWf_mapPut _ _ _ hindex
  · by_cases hmn : m = n
    · exact hmn ▸ hn
    · exact hbelow m (by simpa [hread, hmn] using hm)
  · rw [hrest]
    exact hrestnodup
  · rw [hrest, hread]
    by_cases hmn : m = n
    · simpa [hmn] using hnrest
    · have := hmem m
      rw [hfree] at this
      simpa [hmn] using this
  · rw [heq]
    exact hasc
  · rw [hread, heq]
    by_cases hmn : m = n
    · simpa [hmn, hslot] using hun n
    · simpa [hmn] using hun m
  · have hlen : s.free.length = rest.length + 1 := by rw [hfree]; rfl
    rw [hrest, hoccupancy]
    omega
  · obtain ⟨hl, hm, hout, hdam⟩ := hlisted c
    have hboard := (createRecord_boards s n rest b c p).1
    have hfilter : (s.list c).filter t.isDamagedSlot = (s.list c).filter s.isDamagedSlot :=
      List.filter_congr fun m hmem => hdamaged m fun h => hnotin c (h ▸ hmem)
    have hafter : t.isDamagedSlot n = false := by simp [State.isDamagedSlot, t, hread, Slot.isDamaged]
    unfold State.Listed
    rw [hlists, hboard]
    by_cases hc : c = b
    · subst hc
      simp only [if_pos]
      refine ⟨?_, fun m => ?_, ?_, ?_⟩
      · exact List.nodup_append.2 ⟨hl, List.nodup_singleton n, fun x hx y hy => by
          rintro rfl
          exact hnotin c (List.mem_singleton.1 hy ▸ hx)⟩
      · by_cases hmn : m = n
        · simpa [hmn] using (hlinkedn c).2 rfl
        · simpa [hmn, hm] using (congrArg (· = true) (hlinked c m hmn)).symm.to_iff
      · simp [Board.lodged, hout]
      · show (s.board c).damaged = ((s.list c ++ [n]).filter t.isDamagedSlot).length
        rw [List.filter_append, hfilter]
        simp [hafter, hdam]
    · simp only [if_neg hc]
      refine ⟨hl, fun m => ?_, hout, hdam.trans (congrArg List.length hfilter.symm)⟩
      by_cases hmn : m = n
      · have hno : ¬ t.linkedTo c n = true := fun h => hc ((hlinkedn c).1 h)
        simp only [hmn, hnotin c, false_iff]
        exact hno
      · exact (hm m).trans (by rw [← hlinked c m hmn])

end Sys2Proof.Machine

/-! SUPPORT. The Custody Table under removals, the memory phase, the resets and grants, and the statement about it. -/

namespace Sys2Proof.Machine

/-! ## A slot freed (R7, R14, R17) -/

/-- What is left when slot n has gone from every structure: it is FREE, at the tail of the free list. -/
theorem tableFits_freed {s t : State} {n : Nat} (hheld : s.slot n ≠ none)
    (hstores : t.slots = mapRemove n s.slots ∧ t.index = s.index.filter fun e => e.2 != n)
    (hfreed : t.free = s.free ++ [n] ∧ t.unattributed = s.unattributed.erase n ∧ t.occupancy = s.occupancy - 1)
    (hlists : ∀ c, t.list c = (s.list c).erase n ∧ (t.board c).outstanding = (t.list c).length
      ∧ (t.board c).damaged = ((t.list c).filter s.isDamagedSlot).length) (hs : s.TableFits) : t.TableFits := by
  obtain ⟨⟨hslots, hindex, hbelow⟩, hindexed, ⟨hnodup, hmem, hasc, hun, hocc⟩, hlisted⟩ := hs
  obtain ⟨hslots', hindex'⟩ := hstores
  obtain ⟨hfree', hun', hocc'⟩ := hfreed
  have hread (m : Nat) : t.slot m = if m = n then none else s.slot m := by
    simp only [State.slot, hslots', mapFind_mapRemove]
  have hn : n < Config.recordSlots := hbelow n (Option.isSome_iff_ne_none.2 hheld)
  have hnfree : n ∉ s.free := fun h => hheld ((hmem n).1 h).2
  have hnlast : ∀ x ∈ s.free, ∀ y ∈ [n], x ≠ y := fun x hx y hy hxy => hnfree (List.mem_singleton.1 hy ▸ hxy ▸ hx)
  refine ⟨⟨?_, ?_, fun m hm => ?_⟩, indexWf_drop hindex hindex' (fun m => ?_) hindexed, ⟨?_, fun m => ?_, ?_, fun m => ?_, ?_⟩, fun c => ?_⟩
  · rw [hslots']
    exact mapWf_mapRemove n _ hslots
  · rw [hindex']
    exact mapWf_filter _ _ hindex
  · by_cases hmn : m = n
    · exact hmn ▸ hn
    · exact hbelow m (by simpa [hread, hmn] using hm)
  · by_cases hmn : m = n <;> simp [State.holdsRecord, hread, hmn]
  · rw [hfree']
    exact List.nodup_append.2 ⟨hnodup, List.nodup_singleton n, hnlast⟩
  · rw [hfree', hread, List.mem_append, hmem, List.mem_singleton]
    by_cases hmn : m = n <;> simp [hmn, hn]
  · rw [hun']
    exact hasc.sublist (List.erase_sublist)
  · rw [hun', hread, List.Nodup.mem_erase_iff (hasc.imp Nat.ne_of_lt), hun]
    by_cases hmn : m = n <;> simp [hmn]
  · have hpos : s.free.length < Config.recordSlots := by
      have hsub : n :: s.free ⊆ List.range Config.recordSlots := fun m hm => by
        rcases List.mem_cons.1 hm with rfl | hm
        · exact List.mem_range.2 hn
        · exact List.mem_range.2 ((hmem m).1 hm).1
      have := (List.nodup_cons.2 ⟨hnfree, hnodup⟩).subperm hsub |>.length_le
      simpa using this
    rw [hocc', hfree', List.length_append, List.length_singleton]
    omega
  · obtain ⟨hl, hm, -, -⟩ := hlisted c
    obtain ⟨hlist', hout', hdam'⟩ := hlists c
    have hmem' (m : Nat) : m ∈ t.list c ↔ m ≠ n ∧ s.linkedTo c m = true := by
      rw [hlist', hl.mem_erase_iff, hm]
    refine ⟨hlist' ▸ hl.erase n, fun m => ?_, hout', hdam'.trans (congrArg List.length (List.filter_congr fun m hmt => ?_))⟩
    · rw [hmem']
      by_cases hmn : m = n <;> simp [State.linkedTo, hread, hmn]
    · simp [State.isDamagedSlot, hread, ((hmem' m).1 hmt).1]

/-- Slot n out of board b's list: the list, and the board's record, which drains when a SILENT board's list is left empty. -/
theorem leaveList_removed (s : State) (b : Bd) (n : Nat) (d : Bool) :
    (∀ c, c ≠ b → (s.leaveList b n d).list c = s.list c ∧ (s.leaveList b n d).board c = s.board c)
      ∧ (s.leaveList b n d).list b = (s.list b).erase n
      ∧ ((s.leaveList b n d).board b).outstanding = (if (s.list b).erase n = [] then 0 else (s.board b).outstanding - 1)
      ∧ ((s.leaveList b n d).board b).damaged = (s.board b).damaged - d.toNat
      ∧ ((s.leaveList b n d).board b).state
        = if (s.list b).erase n = [] ∧ (s.board b).state = .silent then .drained else (s.board b).state := by
  refine ⟨fun c hc => leaveList_others s b c n d hc, leaveList_list s b n d, ?_⟩
  by_cases hb : (s.board b).state = .silent
  · rw [leaveList_of_silent s b n d hb]
    by_cases he : (s.list b).erase n = [] <;> simp [hb, he]
  · rw [leaveList_eq s b n d (.inr hb)]
    simp [hb]

/-- A slot linked to a board retires out of the index and the list, DAMAGED or not: a DAMAGED slot has no index entry to lose
(R5, R14). -/
theorem retire_of_linked {s : State} {b : Bd} {n : Nat} (hlinked : s.linkedTo b n = true) (hs : s.TableFits) :
    s.retire n = ((s.dropIndexOf n).leaveList b n (s.isDamagedSlot n)).freeSlot n := by
  obtain ⟨⟨-, hindex, -⟩, hindexed, -⟩ := hs
  rcases linkedTo_cases hlinked with ⟨st, p, parity, hslot⟩ | ⟨p, parity, hslot⟩
  · rw [retire_record_eq s n st b p parity hslot]
    simp [State.isDamagedSlot, hslot, Slot.isDamaged]
  · have hkeep := dropIndex_of_not_holds hindex hindexed (n := n) (by simp [State.holdsRecord, hslot])
    rw [State.dropIndexOf, hkeep, retire_damaged_eq s n b p parity hslot]
    simp [State.isDamagedSlot, hslot, Slot.isDamaged]

theorem linkedTo_unique {s : State} {b c : Bd} {n : Nat} (hb : s.linkedTo b n = true) (hc : s.linkedTo c n = true) : c = b := by
  rcases linkedTo_cases hb with ⟨st, p, parity, hslot⟩ | ⟨p, parity, hslot⟩ <;>
    simp_all [State.linkedTo]

/-- Among the rest of a list as many slots are DAMAGED as in the list, less the one that went. -/
theorem countP_erase_of_mem {α : Type} [DecidableEq α] {l : List α} {a : α} (p : α → Bool) (ha : a ∈ l) :
    (l.erase a).countP p = l.countP p - (p a).toNat := by
  rw [(List.perm_cons_erase ha).countP_eq p, List.countP_cons]
  cases p a <;> simp

/-- A slot of board b's list retired keeps the table's structures and the boards' states in agreement (R11, R14, R123). -/
theorem retire_tableWf_of_linked {s : State} {b : Bd} {n : Nat} (hlinked : s.linkedTo b n = true) (hs : s.TableWf) :
    (s.retire n).TableWf := by
  have hfits : s.TableFits := ((tableWf_iff s).1 hs).1
  obtain ⟨⟨-, -, ⟨-, -, -, hun, -⟩, hlisted⟩, hstates⟩ := (tableWf_iff s).1 hs
  have hretire := retire_of_linked hlinked hfits
  let u := (s.dropIndexOf n).leaveList b n (s.isDamagedSlot n)
  obtain ⟨hothers, hlist, hout, hdam, hstate⟩ := leaveList_removed (s.dropIndexOf n) b n (s.isDamagedSlot n)
  obtain ⟨lists, boards, hframe⟩ := leaveList_frame (s.dropIndexOf n) b n (s.isDamagedSlot n)
  have hreads : (∀ c, (u.freeSlot n).list c = u.list c) ∧ ∀ c, (u.freeSlot n).board c = u.board c := by
    rw [freeSlot_eq]
    exact ⟨fun _ => rfl, fun _ => rfl⟩
  have hnun : n ∉ s.unattributed := fun h => by
    have hslot := (hun n).1 h
    simp [State.linkedTo, hslot] at hlinked
  have hnot (c : Bd) (hc : c ≠ b) : n ∉ s.list c := fun h =>
    hc (linkedTo_unique hlinked (((hlisted c).2.1 n).1 h))
  rw [hretire, tableWf_iff]
  refine ⟨tableFits_freed (s := s) (n := n) ?_ ⟨?_, ?_⟩ ⟨?_, ?_, ?_⟩ (fun c => ?_) hfits, fun c => ?_⟩
  · intro hslot
    simp [State.linkedTo, hslot] at hlinked
  · rw [freeSlot_eq, hframe]
    rfl
  · rw [freeSlot_eq, hframe]
    rfl
  · rw [freeSlot_eq, hframe]
    rfl
  · rw [freeSlot_eq, hframe, List.erase_of_not_mem hnun]
    rfl
  · rw [freeSlot_eq, hframe]
    rfl
  · rw [hreads.1 c, hreads.2 c]
    obtain ⟨hl, hm, hout', hdam'⟩ := hlisted c
    by_cases hc : c = b
    · subst hc
      have hin : n ∈ s.list c := (hm n).2 hlinked
      rw [hlist, hout, hdam]
      refine ⟨rfl, ?_, ?_⟩
      · have hlen := List.length_erase_of_mem hin
        show (if (s.list c).erase n = [] then 0 else (s.board c).outstanding - 1) = ((s.list c).erase n).length
        rw [hlen, hout']
        split
        next he => rw [he] at hlen; exact hlen
        next => rfl
      · show (s.board c).damaged - _ = (((s.list c).erase n).filter s.isDamagedSlot).length
        rw [← List.countP_eq_length_filter, countP_erase_of_mem _ hin, hdam', List.countP_eq_length_filter]
    · obtain ⟨hlistc, hboardc⟩ := hothers c hc
      rw [hlistc, hboardc]
      show s.list c = _ ∧ (s.board c).outstanding = (s.list c).length ∧ (s.board c).damaged = ((s.list c).filter s.isDamagedSlot).length
      exact ⟨(List.erase_of_not_mem (hnot c hc)).symm, hout', hdam'⟩
  · unfold State.StateFits
    rw [hreads.1 c, hreads.2 c]
    by_cases hc : c = b
    · subst hc
      rw [hlist, hstate]
      obtain ⟨hempty, -⟩ := hstates c
      simp only [State.dropIndexOf_reads]
      split
      next hdrains => exact ⟨fun _ => hdrains.1, nofun⟩
      next hstays => exact ⟨fun h => by simp [hempty h], fun h he => hstays ⟨he, h⟩⟩
    · obtain ⟨hlistc, hboardc⟩ := hothers c hc
      rw [hlistc, hboardc]
      exact hstates c

theorem retire_tableWf (n : Nat) {s : State} (hs : s.TableWf) : (s.retire n).TableWf := by
  cases hslot : s.slot n with
  | none =>
    have hsame : s.retire n = s := by simp [State.retire, hslot]
    rw [hsame]
    exact hs
  | some x =>
    cases x with
    | record st b p parity => exact retire_tableWf_of_linked (b := b) (by simp [State.linkedTo, hslot]) hs
    | damaged b p parity => exact retire_tableWf_of_linked (b := b) (by simp [State.linkedTo, hslot]) hs
    | unattributed =>
      have hfits : s.TableFits := ((tableWf_iff s).1 hs).1
      obtain ⟨⟨⟨-, hindex, -⟩, hindexed, -, hlisted⟩, hstates⟩ := (tableWf_iff s).1 hs
      have hnot (c : Bd) : n ∉ s.list c := fun h => by
        have := ((hlisted c).2.1 n).1 h
        simp [State.linkedTo, hslot] at this
      have hkeep := dropIndex_of_not_holds hindex hindexed (n := n) (by simp [State.holdsRecord, hslot])
      rw [retire_unattributed_eq s n hslot, freeSlot_eq, tableWf_iff]
      refine ⟨tableFits_freed (s := s) (n := n) (by simp [hslot]) ⟨rfl, hkeep.symm⟩ ⟨rfl, rfl, rfl⟩ (fun c => ?_) hfits, hstates⟩
      obtain ⟨-, -, hout, hdam⟩ := hlisted c
      exact ⟨(List.erase_of_not_mem (hnot c)).symm, hout, hdam⟩

/-! ## A FREE slot found faulty (R8, R158) -/

theorem damageFree_tableWf {s : State} {n : Nat} (hn : n < Config.recordSlots) (hslot : s.slot n = none) (hs : s.TableWf) :
    (s.damageFree n).TableWf := by
  obtain ⟨⟨⟨hslots, hindex, hbelow⟩, hindexed, ⟨hnodup, hmem, hasc, hun, hocc⟩, hlisted⟩, hstates⟩ := (tableWf_iff s).1 hs
  let t := s.damageFree n
  have hnfree : n ∈ s.free := (hmem n).2 ⟨hn, hslot⟩
  have hread (m : Nat) : t.slot m = if m = n then some .unattributed else s.slot m := by
    simp only [t, damageFree_eq]
    exact mapFind_mapPut n m .unattributed s.slots
  have hholds (m : Nat) : t.holdsRecord m = s.holdsRecord m := by
    by_cases hm : m = n <;> simp [State.holdsRecord, hread, hm, hslot]
  have hlinked (c : Bd) (m : Nat) : t.linkedTo c m = s.linkedTo c m := by
    by_cases hm : m = n <;> simp [State.linkedTo, hread, hm, hslot]
  have hdamaged (c : Bd) (m : Nat) (hm : s.linkedTo c m = true) : t.isDamagedSlot m = s.isDamagedSlot m := by
    have hmn : m ≠ n := by
      rintro rfl
      simp [State.linkedTo, hslot] at hm
    simp [State.isDamagedSlot, hread, hmn]
  have hsame : t.index = s.index ∧ (∀ c, t.list c = s.list c) ∧ (∀ c, t.board c = s.board c) ∧ t.slots = mapPut n .unattributed s.slots
      ∧ t.free = s.free.erase n ∧ t.unattributed = insertAscending n s.unattributed ∧ t.occupancy = s.occupancy + 1 := by
    simp only [t, damageFree_eq]
    exact ⟨rfl, fun _ => rfl, fun _ => rfl, rfl, rfl, rfl, rfl⟩
  obtain ⟨hindex', hlist', hboard', hslots', hfree', hun', hocc'⟩ := hsame
  show t.TableWf
  rw [tableWf_iff]
  refine ⟨⟨⟨?_, ?_, fun m hm => ?_⟩, indexWf_congr hindex' hholds hindexed, ⟨?_, fun m => ?_, ?_, fun m => ?_, ?_⟩,
    fun c => listed_congr (hlist' c) ⟨by rw [hboard'], by rw [hboard']⟩ (hlinked c) (hdamaged c) (hlisted c)⟩, fun c => ?_⟩
  · rw [hslots']
    exact mapWf_mapPut _ _ _ hslots
  · rw [hindex']
    exact hindex
  · by_cases hmn : m = n
    · exact hmn ▸ hn
    · exact hbelow m (by simpa [hread, hmn] using hm)
  · rw [hfree']
    exact hnodup.erase n
  · rw [hfree', hread, hnodup.mem_erase_iff, hmem]
    by_cases hmn : m = n <;> simp [hmn]
  · rw [hun']
    exact pairwise_insertAscending n _ hasc
  · rw [hun', hread, mem_insertAscending, hun]
    by_cases hmn : m = n <;> simp [hmn]
  · have hpos := List.length_pos_of_mem hnfree
    rw [hocc', hfree', List.length_erase_of_mem hnfree]
    omega
  · unfold State.StateFits
    rw [hboard', hlist']
    exact hstates c

theorem testFreeSlot_tableWf {s : State} {n : Nat} (hn : n < Config.recordSlots) (hslot : s.slot n = none) (hs : s.TableWf) :
    (s.testFreeSlot n).TableWf := by
  unfold State.testFreeSlot
  dsimp only
  split
  next => exact hs
  next => exact damageFree_tableWf (s := { s with freeValues := s.freeValues + 1 }) hn hslot hs

/-! ## The table freed whole (R20, R21) -/

theorem tableWf_of_freed {s : State} (hslots : s.slots = [] ∧ s.index = []) (hfree : s.free = slotsFrom 0 Config.recordSlots)
    (hlists : ∀ c, s.list c = []) (hun : s.unattributed = [] ∧ s.occupancy = 0)
    (hboards : ∀ c, (s.board c).outstanding = 0 ∧ (s.board c).damaged = 0 ∧ (s.board c).state ≠ .silent) : s.TableWf := by
  have hread (m : Nat) : s.slot m = none := by
    simp only [State.slot, hslots.1]
    rfl
  rw [tableWf_iff]
  refine ⟨⟨⟨by rw [hslots.1]; rfl, by rw [hslots.2]; rfl, fun m hm => by simp [hread] at hm⟩,
    ⟨fun m => by simp [State.holdsRecord, hread, hslots.2, mapFind], fun j k m hj => by simp [hslots.2, mapFind] at hj⟩,
    ⟨?_, fun m => ?_, ?_, fun m => ?_, ?_⟩, fun c => ?_⟩, fun c => ⟨fun _ => hlists c, fun h => absurd h (hboards c).2.2⟩⟩
  · rw [hfree]
    exact nodup_slotsFrom _ _
  · simp [hfree, mem_slotsFrom, hread]
  · rw [hun.1]
    exact List.Pairwise.nil
  · simp [hun.1, hread]
  · rw [hun.2, hfree, length_slotsFrom, Nat.zero_add]
  · obtain ⟨hout, hdam, -⟩ := hboards c
    unfold State.Listed
    rw [hlists, hout, hdam]
    exact ⟨List.nodup_nil, fun m => by simp [State.linkedTo, hread], rfl, rfl⟩

theorem custodyReset_tableWf {s : State} (hs : s.TableWf) : s.custodyReset.TableWf := by
  obtain ⟨⟨-, -, -, hlisted⟩, hstates⟩ := (tableWf_iff s).1 hs
  refine tableWf_of_freed ⟨rfl, rfl⟩ rfl (fun c => ?_) ⟨rfl, rfl⟩ fun c => ?_
  · simp [State.custodyReset, State.restartSweep, State.countAnew, State.warmBoards, State.freeTable, State.list]
  · rw [(custodyReset_reads s c).1, Board.custodyReset]
    split
    next habsent =>
      obtain ⟨-, -, hout, hdam⟩ := hlisted c
      rw [(hstates c).1 (.inl habsent)] at hout hdam
      exact ⟨hout, hdam, by rw [habsent]; nofun⟩
    next => exact ⟨rfl, rfl, nofun⟩

theorem pinReset_tableWf (s : State) : s.pinReset.TableWf :=
  tableWf_of_freed ⟨rfl, rfl⟩ rfl (fun c => s.pinReset_list c) ⟨rfl, rfl⟩ fun c => by
    rw [s.pinReset_board]
    exact ⟨rfl, rfl, nofun⟩

/-! ## What leaves the table alone -/

theorem TableSame.refl (s : State) : TableSame s s := ⟨rfl, rfl, rfl, rfl, rfl, rfl, fun _ => ⟨rfl, rfl⟩⟩

theorem TableSame.trans {s t u : State} (h : TableSame s t) (k : TableSame t u) : TableSame s u := by
  obtain ⟨h1, h2, h3, h4, h5, h6, h7⟩ := h
  obtain ⟨k1, k2, k3, k4, k5, k6, k7⟩ := k
  exact ⟨k1.trans h1, k2.trans h2, k3.trans h3, k4.trans h4, k5.trans h5, k6.trans h6,
    fun b => ⟨(k7 b).1.trans (h7 b).1, (k7 b).2.trans (h7 b).2⟩⟩

theorem tableSame_modifyBoard {s : State} {b : Bd} {f : Board → Board} (hout : (f (s.board b)).outstanding = (s.board b).outstanding)
    (hdam : (f (s.board b)).damaged = (s.board b).damaged) : TableSame s (s.modifyBoard b f) := by
  refine ⟨rfl, rfl, rfl, rfl, rfl, rfl, fun c => ?_⟩
  by_cases hc : c = b
  · subst hc
    simp [hout, hdam]
  · simp [hc]

theorem tableSame_reportState (s : State) (old new : BoardState) : TableSame s (s.reportState old new) := by
  unfold State.reportState State.reevaluateCommon
  dsimp only
  split_ifs <;> exact TableSame.refl _

theorem tableSame_setBoardState (s : State) (b : Bd) (new : BoardState) : TableSame s (s.setBoardState b new) :=
  (tableSame_modifyBoard rfl rfl).trans (tableSame_reportState _ _ _)

/-- A change of one board's record that leaves its counts, and its state unless it is put in service, leaves the table. -/
theorem tableKeeps_modifyBoard {s : State} {b : Bd} {f : Board → Board}
    (hcounts : (f (s.board b)).outstanding = (s.board b).outstanding ∧ (f (s.board b)).damaged = (s.board b).damaged)
    (hstate : (f (s.board b)).state = (s.board b).state ∨ (f (s.board b)).state.isActive = true
      ∨ (f (s.board b)).state = .absent ∧ (s.board b).outstanding = 0) : TableKeeps s (s.modifyBoard b f) := by
  refine ⟨tableSame_modifyBoard hcounts.1 hcounts.2, fun c => ?_⟩
  by_cases hc : c = b
  · subst hc
    simpa using hstate
  · exact .inl (by simp [hc])

theorem TableKeeps.reported {s t : State} (h : TableKeeps s t) (old new : BoardState) : TableKeeps s (t.reportState old new) :=
  ⟨h.1.trans (tableSame_reportState t old new), fun b => by rw [(reportState_reads t old new).1]; exact h.2 b⟩

/-! ## A grant (R122, R123) -/

/-- The walk over slots linked to its board goes through, and leaves the structures in agreement. -/
theorem holdWalk_tableFits (b : Bd) (l : List Nat) {s : State} (hl : ∀ n ∈ l, s.linkedTo b n = true) (hs : s.TableFits) :
    (State.holdWalk b l s).1.TableFits ∧ (State.holdWalk b l s).2 = true ∧ (State.holdWalk b l s).1.halted = s.halted := by
  induction l generalizing s with
  | nil => exact ⟨hs, rfl, rfl⟩
  | cons n l ih =>
    have hrest : ∀ m ∈ l, s.linkedTo b m = true := fun m hm => hl m (List.mem_cons_of_mem n hm)
    unfold State.holdWalk
    rw [if_pos (hl n List.mem_cons_self)]
    split
    next st link p parity hslot =>
      obtain rfl : link = b := by simpa [State.linkedTo, hslot] using hl n List.mem_cons_self
      split
      · rw [offer_eq]
        exact ih hrest hs
      · refine ih (fun m hm => ?_) (damageRecord_tableFits hslot hs)
        by_cases hmn : m = n <;> simp [State.linkedTo, damageRecord_slot, hmn]
        simpa [State.linkedTo] using hrest m hm
    all_goals exact ih hrest hs

theorem tableSame_silence (s : State) (b : Bd) : TableSame s (s.silence b) := by
  refine ⟨rfl, rfl, rfl, rfl, rfl, rfl, fun c => ?_⟩
  by_cases hc : c = b <;> simp [State.silence, hc]

/-- A grant in a sound table goes through, and leaves the table sound (R122). -/
theorem grantVerdict_tableWf (b : Bd) (path : VerdictPath) {s : State} (hs : s.TableWf) :
    (s.grantVerdict b path).TableWf ∧ (s.grantVerdict b path).halted = s.halted := by
  obtain ⟨hfits, hstates⟩ := (tableWf_iff s).1 hs
  let t := ((s.silence b).reportState (s.board b).state .silent).latchVerdict b path
  have hsame : TableSame s t := (tableSame_silence s b).trans (tableSame_reportState (s.silence b) _ _)
  have htfits : t.TableFits := hsame.tableFits hfits
  obtain ⟨-, hlinked, -, -⟩ := htfits.2.2.2 b
  obtain ⟨hwfits, hwalk, hwhalted⟩ := holdWalk_tableFits b (t.list b) (fun n hn => (hlinked n).1 hn) htfits
  let w := (State.holdWalk b (t.list b) t).1
  obtain ⟨hothers, ⟨d, hself⟩, -, -, hlists⟩ := holdWalk_boards b (t.list b) t
  have hout : (w.board b).outstanding = (w.list b).length := (hwfits.2.2.2 b).2.2.1
  have hagrees : w.countAgrees b = true := by simp [State.countAgrees, hout]
  have hgrant : s.grantVerdict b path = if (w.board b).outstanding = 0 then w.setBoardState b .drained else w := by
    show t.holdRecords b = _
    unfold State.holdRecords
    dsimp only
    rw [hwalk, if_neg nofun, if_neg (by simp [w, hagrees])]
  have hlist (c : Bd) : w.list c = s.list c := (hlists c).trans (by simp only [State.list, hsame.2.2.2.1])
  have hboard (c : Bd) (hc : c ≠ b) : (w.board c).state = (s.board c).state := by
    rw [hothers c hc]
    have : t.board c = (s.silence b).board c := (reportState_reads _ _ _).1 c
    rw [this, ((silence_reads s b).1 c hc).1]
  have hsilent : (w.board b).state = .silent := by
    rw [hself]
    exact (congrArg Board.state ((reportState_reads (s.silence b) _ _).1 b)).trans (silence_reads s b).2.1
  have hhalted : t.halted = s.halted := by
    show (State.reportState _ _ _).halted = _
    unfold State.reportState State.reevaluateCommon
    dsimp only
    split_ifs <;> rfl
  rw [hgrant]
  split
  next hnone =>
    have hempty : w.list b = [] := List.length_eq_zero_iff.1 (hout.symm.trans hnone)
    refine ⟨(tableWf_iff _).2 ⟨(tableSame_setBoardState w b .drained).tableFits hwfits, fun c => ?_⟩, ?_⟩
    · by_cases hc : c = b
      · subst hc
        exact ⟨fun _ => by simpa using hempty, fun h => by simp at h⟩
      · have hstate : ((w.setBoardState b .drained).board c).state = (s.board c).state := by simp [hc, hboard c hc]
        have hl : (w.setBoardState b .drained).list c = s.list c := by simp [hlist]
        unfold State.StateFits
        rw [hstate, hl]
        exact hstates c
    · rw [setBoardState_drained w b hsilent]
      exact hwhalted.trans hhalted
  next hsome =>
    refine ⟨(tableWf_iff _).2 ⟨hwfits, fun c => ?_⟩, hwhalted.trans hhalted⟩
    by_cases hc : c = b
    · subst hc
      refine ⟨fun h => ?_, fun _ he => hsome (by rw [hout, he]; rfl)⟩
      rw [hsilent] at h
      exact absurd h (by decide)
    · unfold State.StateFits
      rw [hboard c hc, hlist]
      exact hstates c

end Sys2Proof.Machine

/-! SUPPORT. That every step keeps the Custody Table sound, and the statement about it. -/

namespace Sys2Proof.Machine

/-! ## The Verdict Unit's operations -/

/-- The table's structures agree and the sweep's settings are in range. -/
def State.Sound (s : State) : Prop := s.TableWf ∧ s.SweepWf

theorem sweepTimed_false : State.SweepTimed False = State.SweepWf := funext fun s => propext (sweepWf_iff s)

theorem opKept_sweepWf : OpKept State.SweepWf := sweepTimed_false ▸ opKept_sweep False

theorem tableKeeps_setBoardState {s : State} {b : Bd} {new : BoardState} (hnew : new.isActive = true) :
    TableKeeps s (s.setBoardState b new) :=
  TableKeeps.reported (tableKeeps_modifyBoard ⟨rfl, rfl⟩ (.inr (.inl hnew))) _ _

theorem verdictKept_tableWf : VerdictKept State.TableWf where
  latch _ _ hs := hs
  grant _ b path _ _ hs := (grantVerdict_tableWf b path hs).1
  withhold s b c _ hs := TableKeeps.tableWf (s := s) (t := s.withhold b c)
    (tableKeeps_modifyBoard (s := s) (b := b) (f := fun x => { x with pending := true }) ⟨rfl, rfl⟩ (.inl rfl)) hs
  record _ _ _ _ hs := hs
  clear s b hs := TableKeeps.tableWf (s := s) (t := s.clearPending b)
    (tableKeeps_modifyBoard (s := s) (b := b) (f := fun x => { x with pending := false }) ⟨rfl, rfl⟩ (.inl rfl)) hs
  doubt _ _ _ _ hs := (tableKeeps_setBoardState rfl).tableWf hs
  live _ _ _ _ hs := (tableKeeps_setBoardState rfl).tableWf hs

/-! ## Every operation -/

theorem tableKeeps_enterWarming (s : State) (b : Bd) : TableKeeps s (s.enterWarming b) :=
  TableKeeps.reported (t := (s.modifyBoard b fun x => x.warmed s.seed (s.after s.graceLength)).modifyLine b fun _ => Line.reset)
    (tableKeeps_modifyBoard (s := s) (b := b) (f := fun x => x.warmed s.seed (s.after s.graceLength)) ⟨rfl, rfl⟩ (.inr (.inl rfl))) _ _

theorem tableKeeps_leaveService {s : State} {b : Bd} (hout : (s.board b).outstanding = 0) : TableKeeps s (s.leaveService b) :=
  TableKeeps.reported (t := (s.modifyBoard b Board.retired).modifyLine b fun l => { l with intervalArmed := false })
    (tableKeeps_modifyBoard (s := s) (b := b) (f := Board.retired) ⟨rfl, rfl⟩ (.inr (.inr ⟨rfl, hout⟩))) _ _

theorem absolveBoard_tableWf (b : Bd) {s : State} (hs : s.TableWf) : (s.absolveBoard b).TableWf := by
  have hscore : (s.modifyBoard b fun x => { x with score := 0 }).TableWf :=
    (tableKeeps_modifyBoard ⟨rfl, rfl⟩ (.inl rfl)).tableWf hs
  exact (tableKeeps_setBoardState rfl).tableWf (verdictKept_tableWf.clear _ b hscore)

theorem reevaluateCommon_tableWf {s : State} (hs : s.TableWf) : s.reevaluateCommon.TableWf := by
  unfold State.reevaluateCommon
  split <;> exact hs

theorem createRecord_tableWf {s : State} {n : Nat} {rest : List Nat} {b : Bd} {p : Payload} (hb : (s.board b).state.isActive = true)
    (hfree : s.free = n :: rest) (hkey : s.lookupKey p.key = none) (hs : s.TableWf) : (s.createRecord n rest b p).TableWf := by
  obtain ⟨hfits, hstates⟩ := (tableWf_iff s).1 hs
  refine (tableWf_iff _).2 ⟨createRecord_tableFits b hfree hkey hfits, fun c => ?_⟩
  have hboard := (createRecord_boards s n rest b c p).1
  by_cases hc : c = b
  · subst hc
    exact stateFits_of_active (by rw [hboard, if_pos rfl]; exact hb)
  · unfold State.StateFits
    rw [hboard, if_neg hc, (createRecord_reads s n rest b p).2.1, if_neg hc]
    exact hstates c

theorem opKept_sound : OpKept State.Sound where
  aside s t h hs := by
    refine ⟨?_, opKept_sweepWf.aside s t h hs.2⟩
    obtain ⟨_, _, _, _, _, _, _, _, _, rfl⟩ := h
    exact hs.1
  charge s b k hs := ⟨verdictKept_tableWf.charge s b k ((tableKeeps_modifyBoard ⟨rfl, rfl⟩ (.inl rfl)).tableWf hs.1) hs.1,
    opKept_sweepWf.charge s b k hs.2⟩
  credit s b hs := ⟨verdictKept_tableWf.credit s b ((tableKeeps_modifyBoard ⟨rfl, rfl⟩ (.inl rfl)).tableWf hs.1),
    opKept_sweepWf.credit s b hs.2⟩
  enrol s b hb hs := ⟨verdictKept_tableWf.afterExit s _ ((tableKeeps_enterWarming s b).tableWf hs.1), opKept_sweepWf.enrol s b hb hs.2⟩
  reinstate s b hb hs := ⟨verdictKept_tableWf.reconsider _ ((tableKeeps_enterWarming s b).tableWf hs.1),
    opKept_sweepWf.reinstate s b hb hs.2⟩
  retireActive s b hb ho hs := ⟨verdictKept_tableWf.afterExit s _ ((tableKeeps_leaveService ho).tableWf hs.1),
    opKept_sweepWf.retireActive s b hb ho hs.2⟩
  retireDrained s b hb ho hs := ⟨verdictKept_tableWf.reconsider _ ((tableKeeps_leaveService ho).tableWf hs.1),
    opKept_sweepWf.retireDrained s b hb ho hs.2⟩
  declare s b hb hd hs := ⟨verdictKept_tableWf.afterExit s _ (grantVerdict_tableWf b _ hs.1).1, opKept_sweepWf.declare s b hb hd hs.2⟩
  absolve s b hb hs := ⟨verdictKept_tableWf.afterExit s _ (absolveBoard_tableWf b hs.1), opKept_sweepWf.absolve s b hb hs.2⟩
  baseline _ _ _ hs := ⟨(tableKeeps_modifyBoard ⟨rfl, rfl⟩ (.inl rfl)).tableWf hs.1, hs.2⟩
  damage s n st b p q hslot _ hs := by
    obtain ⟨hfits, hstates⟩ := (tableWf_iff s).1 hs.1
    refine ⟨(tableWf_iff _).2 ⟨damageRecord_tableFits hslot hfits, fun c => ?_⟩, hs.2⟩
    have hstate : ((s.damageRecord n b p q).board c).state = (s.board c).state := by
      rw [damageRecord_board]
      split
      next h => rw [h]
      next => rfl
    unfold State.StateFits
    rw [hstate]
    exact hstates c
  halt s w h hs := ⟨hs.1, opKept_sweepWf.halt s w h hs.2⟩
  create s n rest b p hb hfree hkey hs := ⟨createRecord_tableWf hb hfree hkey hs.1, opKept_sweepWf.create s n rest b p hb hfree hkey hs.2⟩
  rewrite s n st st' b p q parity hslot _ _ hs := by
    obtain ⟨hfits, hstates⟩ := (tableWf_iff s).1 hs.1
    exact ⟨(tableWf_iff _).2 ⟨writeRecord_tableFits hslot st' q hfits, hstates⟩, hs.2⟩
  retire s n hs := ⟨retire_tableWf n hs.1, opKept_sweepWf.retire s n hs.2⟩
  sample _ _ _ _ hs := ⟨(tableKeeps_modifyBoard ⟨rfl, rfl⟩ (.inl rfl)).tableWf hs.1, hs.2⟩
  releases _ _ hs := ⟨(tableKeeps_modifyBoard ⟨rfl, rfl⟩ (.inl rfl)).tableWf hs.1, hs.2⟩
  progress _ _ hs := ⟨(tableKeeps_modifyBoard ⟨rfl, rfl⟩ (.inl rfl)).tableWf hs.1, hs.2⟩
  group s f hf hs := ⟨verdictKept_tableWf.afterSetgroup (s.modifyGroups f) hs.1, opKept_sweepWf.group s f hf hs.2⟩
  thresholds s f hf hs := ⟨verdictKept_tableWf.afterSetgroup _ (verdictKept_tableWf.reevaluateBoards allBoards _ hs.1),
    opKept_sweepWf.thresholds s f hf hs.2⟩
  guard s f hf hs := ⟨verdictKept_tableWf.reconsider _ (reevaluateCommon_tableWf (s := s.modifyGroups _) hs.1),
    opKept_sweepWf.guard s f hf hs.2⟩
  clear s hs := ⟨custodyReset_tableWf hs.1, opKept_sweepWf.clear s hs.2⟩
  startTest s inject hs := by
    refine ⟨?_, opKept_sweepWf.startTest s inject hs.2⟩
    unfold State.startTest
    rw [verifyGroups_eq]
    exact hs.1
  startPass s h hs := by
    refine ⟨?_, opKept_sweepWf.startPass s h hs.2⟩
    rw [startPass_eq]
    exact hs.1
  testFree s hslot hphase hs := by
    obtain ⟨-, -, -, -, hpos, -⟩ := hs.2
    exact ⟨testFreeSlot_tableWf hpos hslot hs.1, opKept_sweepWf.testFree s hslot hphase hs.2⟩
  moveOn s began hpass hclock hs := by
    refine ⟨?_, opKept_sweepWf.moveOn s began hpass hclock hs.2⟩
    obtain ⟨_, _, _, _, heq⟩ := afterVisit_eq began s
    rw [heq]
    exact hs.1
  grace s b hb hs := by
    refine ⟨?_, opKept_sweepWf.grace s b hb hs.2⟩
    rw [expireGrace_eq s b hb]
    exact (tableKeeps_modifyBoard ⟨rfl, rfl⟩ (.inr (.inl rfl))).tableWf hs.1
  pulse s b _ hs := ⟨(tableKeeps_modifyBoard (s := s.modifyLine b _) ⟨rfl, rfl⟩ (.inl rfl)).tableWf hs.1, hs.2⟩
  lost s b _ hs := ⟨(tableKeeps_modifyBoard (s := s.modifyLine b _) ⟨rfl, rfl⟩ (.inl rfl)).tableWf hs.1, hs.2⟩
  stall _ _ _ hs := ⟨(tableKeeps_modifyBoard ⟨rfl, rfl⟩ (.inl rfl)).tableWf hs.1, hs.2⟩

theorem sound_pinReset (s : State) : s.pinReset.Sound := by
  refine ⟨pinReset_tableWf s, ?_⟩
  show State.held.SweepWf
  unfold State.SweepWf
  decide +kernel

theorem sound_tick {s : State} (hs : s.Sound) : s.tick.Sound := hs

theorem step_keeps_sound {s t : State} (hs : s.Sound) (ht : step s = .next t) : t.Sound := by
  refine opKept_sound.step ?_ sound_pinReset (fun s hs => ?_) (fun s hs => sound_tick (opKept_sound.endTu s hs)) hs ht
  · rintro s t ⟨_, _, _, _, _, _, _, rfl⟩ hs
    exact hs
  · unfold State.releaseReset
    split <;> exact hs

/-! ## The slots shared out (R10) -/

/-- The slots of all custody lists. -/
def State.heldSlots (s : State) : List Nat := allBoards.flatMap s.list

theorem length_heldSlots {s : State} (hs : ∀ b, s.Listed b) : s.heldSlots.length = (allBoards.map fun b => (s.board b).outstanding).sum := by
  rw [State.heldSlots, List.length_flatMap]
  exact congrArg List.sum (List.map_congr_left fun b _ => (hs b).2.2.1.symm)

theorem mem_heldSlots {s : State} (hs : ∀ b, s.Listed b) (n : Nat) : n ∈ s.heldSlots ↔ ∃ b, s.linkedTo b n = true := by
  simp only [State.heldSlots, List.mem_flatMap, mem_allBoards, true_and]
  exact exists_congr fun b => (hs b).2.1 n

theorem nodup_heldSlots {s : State} (hs : ∀ b, s.Listed b) : s.heldSlots.Nodup := by
  refine List.nodup_flatMap.2 ⟨fun b _ => (hs b).1, ?_⟩
  have hnodup : allBoards.Nodup := by decide
  refine hnodup.imp fun {b c} hbc n hb hc => hbc ?_
  exact linkedTo_unique (((hs c).2.1 n).1 hc) (((hs b).2.1 n).1 hb)

/-- The FREE slots, the held slots and the unattributed slots are the 8192 slots, each once (R10). -/
theorem slots_perm {s : State} (hs : s.TableFits) : (s.free ++ s.heldSlots ++ s.unattributed).Perm (List.range Config.recordSlots) := by
  obtain ⟨⟨-, -, hbelow⟩, -, ⟨hnodup, hmem, hasc, hun, -⟩, hlisted⟩ := hs
  have hlink (n : Nat) (h : n ∈ s.heldSlots) : s.slot n ≠ none ∧ s.slot n ≠ some .unattributed := by
    obtain ⟨b, hb⟩ := (mem_heldSlots hlisted n).1 h
    rcases linkedTo_cases hb with ⟨st, p, parity, hslot⟩ | ⟨p, parity, hslot⟩ <;> simp [hslot]
  refine (List.perm_ext_iff_of_nodup ?_ List.nodup_range).2 fun n => ?_
  · refine List.nodup_append.2 ⟨List.nodup_append.2 ⟨hnodup, nodup_heldSlots hlisted, ?_⟩, hasc.imp Nat.ne_of_lt, ?_⟩
    · rintro n hn _ hm rfl
      exact (hlink n hm).1 ((hmem n).1 hn).2
    · rintro n hn _ hm rfl
      rcases List.mem_append.1 hn with hn | hn
      · exact absurd (((hmem n).1 hn).2.symm.trans ((hun n).1 hm)) nofun
      · exact (hlink n hn).2 ((hun n).1 hm)
  · rw [List.mem_append, List.mem_append, hmem, mem_heldSlots hlisted, hun, List.mem_range]
    constructor
    · rintro ((h | ⟨b, hb⟩) | h)
      · exact h.1
      · refine hbelow n (Option.isSome_iff_ne_none.2 ?_)
        exact (hlink n ((mem_heldSlots hlisted n).2 ⟨b, hb⟩)).1
      · exact hbelow n (by simp [h])
    · intro hn
      cases hslot : s.slot n with
      | none => exact .inl (.inl ⟨hn, rfl⟩)
      | some x =>
        cases x with
        | record st b p parity => exact .inl (.inr ⟨b, by simp [State.linkedTo, hslot]⟩)
        | damaged b p parity => exact .inl (.inr ⟨b, by simp [State.linkedTo, hslot]⟩)
        | unattributed => exact .inr rfl

/-- Settles O57: every operation keeps the structures in agreement; the sum counts the slots by where they stand. -/
theorem tableKept : Obligations.TableKept := by
  refine ⟨fun s t htable hsweep ht => step_keeps_sound ⟨htable, hsweep⟩ ht, fun s hs => ?_⟩
  have hfits := ((tableWf_iff s).1 hs).1
  have hlen := (slots_perm hfits).length_eq
  rw [List.length_append, List.length_append, length_heldSlots hfits.2.2.2, List.length_range] at hlen
  exact hlen

end Sys2Proof.Machine

/-! SUPPORT. In a sound table whose payloads read clean no structure check fails, and the statement about HALTED. -/

namespace Sys2Proof.Machine

theorem keyNumber_injective : Function.Injective keyNumber := by
  rintro ⟨t, q⟩ ⟨t', q'⟩ h
  have hq := q.isLt
  have hq' := q'.isLt
  simp only [keyNumber] at h
  congr 1 <;> apply BitVec.eq_of_toNat_eq <;> omega

/-! ## No structure check fails (R152) -/

/-- In a sound table whose payloads read clean no structure check fails (R152). -/
theorem not_structureFails {s : State} (hs : s.TableWf) (hclean : s.CleanWf) (w : Structure) : ¬ s.StructureFails w := by
  obtain ⟨⟨-, hindexed, -, hlisted⟩, -⟩ := (tableWf_iff s).1 hs
  cases w with
  | keyIndex =>
    rintro (⟨k, n, hk, hno⟩ | ⟨n, st, b, p, q, hslot, -, hlookup⟩)
    · have hholds : s.holdsRecord n = true := (hindexed.1 n).2 ⟨keyNumber k, hk⟩
      unfold State.holdsRecord at hholds
      split at hholds
      next st b p q hslot =>
        obtain ⟨hp, hkey⟩ := hclean n st b p q hslot
        exact hno st b p q hslot hp (keyNumber_injective (hindexed.2 _ _ _ hkey hk))
      all_goals exact absurd hholds Bool.false_ne_true
    · exact hlookup (hclean n st b p q hslot).2
  | custodyList b =>
    obtain ⟨-, hlinked, hout, -⟩ := hlisted b
    have hagrees : s.countAgrees b = true := by simp [State.countAgrees, hout]
    have hall (l : List Nat) (hl : ∀ n ∈ l, n ∈ s.list b) : l.all (s.linkedTo b) = true :=
      List.all_eq_true.2 fun n hn => (hlinked n).1 (hl n hn)
    rintro (⟨n, st, p, q, hslot, hfails⟩ | ⟨m, hfails⟩ | hfails)
    · have hin : n ∈ s.list b := (hlinked n).2 (by simp [State.linkedTo, hslot])
      have hreached : ∀ m ∈ reachedTo n (s.list b), m ∈ s.list b := fun m => by
        generalize s.list b = l
        induction l with
        | nil => exact id
        | cons a l ih =>
          unfold reachedTo
          split
          · intro h
            exact List.mem_cons.2 (.inl (List.mem_singleton.1 h))
          · intro h
            rcases List.mem_cons.1 h with rfl | h
            · exact List.mem_cons_self
            · exact List.mem_cons_of_mem a (ih h)
      simp [State.removalSound, hin, hall _ hreached, hagrees] at hfails
    · simp [State.takeSound, hall _ fun n hn => List.mem_of_mem_take hn, hagrees] at hfails
    · simp [State.purgeSound, hall _ fun n hn => hn, hagrees] at hfails

/-! ## Clean payloads kept -/

/-- Every payload reads clean and the device is not HALTED. -/
def State.Healthy (s : State) : Prop := s.CleanWf ∧ s.halted = false

theorem cleanWf_of_same {s t : State} (hslots : t.slots = s.slots) (hindex : t.index = s.index) (hs : s.CleanWf) : t.CleanWf := by
  unfold State.CleanWf at *
  simp only [State.slot, State.lookupKey, hslots, hindex] at hs ⊢
  exact hs

theorem healthy_of_same {s t : State} (h : t.slots = s.slots ∧ t.index = s.index ∧ t.halted = s.halted) (hs : s.Healthy) : t.Healthy := by
  obtain ⟨hslots, hindex, hhalted⟩ := h
  exact ⟨cleanWf_of_same hslots hindex hs.1, hhalted.trans hs.2⟩

theorem reportState_table (s : State) (old new : BoardState) :
    (s.reportState old new).slots = s.slots ∧ (s.reportState old new).index = s.index
      ∧ (s.reportState old new).halted = s.halted := by
  unfold State.reportState State.reevaluateCommon
  dsimp only
  split_ifs <;> exact ⟨rfl, rfl, rfl⟩

theorem setBoardState_table (s : State) (b : Bd) (new : BoardState) :
    (s.setBoardState b new).slots = s.slots ∧ (s.setBoardState b new).index = s.index
      ∧ (s.setBoardState b new).halted = s.halted := reportState_table _ _ _

/-- The walk of a grant damages no record that reads clean. -/
theorem holdWalk_cleanWf (b : Bd) (l : List Nat) {s : State} (hs : s.CleanWf) : (State.holdWalk b l s).1.CleanWf := by
  induction l generalizing s with
  | nil => exact hs
  | cons n l ih =>
    unfold State.holdWalk
    split
    · split
      next st link p parity hslot =>
        split
        · rw [offer_eq]
          exact ih hs
        · next hunclean => exact absurd (hs n st link p parity hslot).1 hunclean
      all_goals exact ih hs
    · exact hs

theorem holdRecords_cleanWf (b : Bd) {s : State} (hs : s.CleanWf) : (s.holdRecords b).CleanWf := by
  have hwalk := holdWalk_cleanWf b (s.list b) hs
  unfold State.holdRecords
  generalize State.holdWalk b (s.list b) s = w at hwalk ⊢
  dsimp only
  split_ifs
  · exact hwalk
  · exact hwalk
  · obtain ⟨hslots, hindex, -⟩ := setBoardState_table w.1 b .drained
    exact cleanWf_of_same hslots hindex hwalk
  · exact hwalk

theorem grantVerdict_healthy (b : Bd) (path : VerdictPath) {s : State} (htable : s.TableWf) (hs : s.Healthy) :
    (s.grantVerdict b path).Healthy := by
  obtain ⟨hslots, hindex, -⟩ := reportState_table (s.silence b) (s.board b).state .silent
  have hreported : (((s.silence b).reportState (s.board b).state .silent).latchVerdict b path).CleanWf :=
    cleanWf_of_same (s := s) hslots hindex hs.1
  exact ⟨holdRecords_cleanWf b hreported, (grantVerdict_tableWf b path htable).2.trans hs.2⟩

/-- Sound, and healthy. -/
def State.SoundHealthy (s : State) : Prop := s.Sound ∧ s.Healthy

theorem verdictKept_soundHealthy : VerdictKept State.SoundHealthy where
  latch _ _ hs := hs
  grant s b path hd hb hs :=
    ⟨⟨verdictKept_tableWf.grant s b path hd hb hs.1.1, (sweepTimed_false ▸ sweepVerdictKept False).grant s b path hd hb hs.1.2⟩,
      grantVerdict_healthy b path hs.1.1 hs.2⟩
  withhold s b c hb hs := ⟨⟨verdictKept_tableWf.withhold s b c hb hs.1.1, hs.1.2⟩, hs.2⟩
  record _ _ _ _ hs := hs
  clear s b hs := ⟨⟨verdictKept_tableWf.clear s b hs.1.1, hs.1.2⟩, hs.2⟩
  doubt s b hb ha hs :=
    ⟨⟨verdictKept_tableWf.doubt s b hb ha hs.1.1, (sweepTimed_false ▸ sweepVerdictKept False).doubt s b hb ha hs.1.2⟩,
      healthy_of_same (s := s) (setBoardState_table s b _) hs.2⟩
  live s b hb hp hs :=
    ⟨⟨verdictKept_tableWf.live s b hb hp hs.1.1, (sweepTimed_false ▸ sweepVerdictKept False).live s b hb hp hs.1.2⟩,
      healthy_of_same (s := s) (setBoardState_table s b _) hs.2⟩

theorem soundHealthy_of_keeps {s t : State} (h : TableKeeps s t) (hsweep : t.SweepWf)
    (hsame : t.slots = s.slots ∧ t.index = s.index ∧ t.halted = s.halted) (hs : s.SoundHealthy) : t.SoundHealthy :=
  ⟨⟨h.tableWf hs.1.1, hsweep⟩, healthy_of_same hsame hs.2⟩

theorem sweepWf_of_sweepStops {s t : State} (h : SweepStops s t) (hs : s.SweepWf) : t.SweepWf :=
  (sweepWf_iff t).1 (sweepTimed_of_sweepStops h ((sweepWf_iff s).2 hs))

theorem enterWarming_soundHealthy (b : Bd) {s : State} (hs : s.SoundHealthy) : (s.enterWarming b).SoundHealthy :=
  soundHealthy_of_keeps (tableKeeps_enterWarming s b) (sweepWf_of_sweepStops (sweepStops_enterWarming s b) hs.1.2)
    (reportState_table _ _ _) hs

theorem leaveService_soundHealthy {b : Bd} {s : State} (ho : (s.board b).outstanding = 0) (hs : s.SoundHealthy) :
    (s.leaveService b).SoundHealthy :=
  soundHealthy_of_keeps (tableKeeps_leaveService ho) (sweepWf_of_sweepStops (sweepStops_leaveService s b) hs.1.2)
    (reportState_table _ _ _) hs

theorem absolveBoard_soundHealthy (b : Bd) {s : State} (hs : s.SoundHealthy) : (s.absolveBoard b).SoundHealthy :=
  ⟨⟨absolveBoard_tableWf b hs.1.1, sweepWf_of_sweepStops (sweepStops_absolveBoard s b) hs.1.2⟩,
    healthy_of_same (s := s) (setBoardState_table _ b .live) hs.2⟩

/-! ## Records created, rewritten and retired -/

theorem createRecord_cleanWf {s : State} {n : Nat} (rest : List Nat) (b : Bd) {p : Payload} (hkey : s.lookupKey p.key = none)
    (hs : s.CleanWf) : (s.createRecord n rest b p).CleanWf := by
  intro m st c q parity hm
  obtain ⟨hread, -, -, hindex, -⟩ := createRecord_reads s n rest b p
  have hlookup (k : Key) : (s.createRecord n rest b p).lookupKey k = if keyNumber k = keyNumber p.key then some n else s.lookupKey k := by
    simp only [State.lookupKey, hindex, mapFind_mapPut]
  rw [hread] at hm
  rw [hlookup]
  split at hm
  next hmn =>
    obtain ⟨-, -, rfl, rfl⟩ : Stage.lodged = st ∧ b = c ∧ p = q ∧ parityOf p = parity := by simpa using hm
    exact ⟨by simp [readsClean], by simp [hmn]⟩
  next =>
    obtain ⟨hclean, hfound⟩ := hs m st c q parity hm
    refine ⟨hclean, ?_⟩
    rw [if_neg fun h => ?_, hfound]
    rw [keyNumber_injective h, hkey] at hfound
    exact absurd hfound nofun

theorem writeRecord_cleanWf {s : State} {n : Nat} {p q : Payload} (st : Stage) (b : Bd) (hkey : q.key = p.key)
    (hlookup : s.lookupKey p.key = some n) (hs : s.CleanWf) : (s.writeRecord n st b q).CleanWf := by
  intro m st' c r parity hm
  rw [State.slot_writeRecord] at hm
  show _ ∧ s.lookupKey r.key = some m
  split at hm
  next hmn =>
    obtain ⟨-, -, rfl, rfl⟩ : st = st' ∧ b = c ∧ q = r ∧ parityOf q = parity := by simpa using hm
    exact ⟨by simp [readsClean], by rw [hkey, hlookup, hmn]⟩
  next => exact hs m st' c r parity hm

/-- A retired slot's entry goes from the index; no other does (R6, R14). -/
theorem retire_index {s : State} {n : Nat} (hs : s.TableFits) (hslot : s.slot n ≠ none) :
    (s.retire n).index = s.index.filter fun e => e.2 != n := by
  have hlinked (b : Bd) (hb : s.linkedTo b n = true) : (s.retire n).index = s.index.filter fun e => e.2 != n := by
    obtain ⟨lists, boards, hleft⟩ := leaveList_frame (s.dropIndexOf n) b n (s.isDamagedSlot n)
    rw [retire_of_linked hb hs, freeSlot_eq, hleft]
    rfl
  cases hx : s.slot n with
  | none => exact absurd hx hslot
  | some x =>
    cases x with
    | record st b p parity => exact hlinked b (by simp [State.linkedTo, hx])
    | damaged b p parity => exact hlinked b (by simp [State.linkedTo, hx])
    | unattributed =>
      rw [retire_unattributed_eq s n hx, freeSlot_eq]
      exact (dropIndex_of_not_holds hs.1.2.1 hs.2.1 (by simp [State.holdsRecord, hx])).symm

theorem retire_cleanWf {s : State} (n : Nat) (htable : s.TableFits) (hs : s.CleanWf) : (s.retire n).CleanWf := by
  intro m st b p parity hm
  rw [retire_slot] at hm
  split at hm
  next => exact absurd hm nofun
  next hmn =>
    obtain ⟨hclean, hfound⟩ := hs m st b p parity hm
    refine ⟨hclean, ?_⟩
    by_cases hslot : s.slot n = none
    · simpa [State.retire, hslot] using hfound
    · unfold State.lookupKey
      rw [retire_index htable hslot]
      exact (mapFind_dropIndex htable.1.2.1 n _ m).2 ⟨hfound, hmn⟩

theorem testFreeSlot_healthy {s : State} {n : Nat} (hs : s.Healthy) : (s.testFreeSlot n).Healthy := by
  have hread : ∀ m, (s.testFreeSlot n).slot m = s.slot m ∨ (s.testFreeSlot n).slot m = some .unattributed := by
    intro m
    unfold State.testFreeSlot
    dsimp only
    split
    · exact .inl rfl
    · rw [damageFree_eq]
      have h := mapFind_mapPut n m Slot.unattributed s.slots
      by_cases hm : m = n
      · exact .inr (h.trans (if_pos hm))
      · exact .inl (h.trans (if_neg hm))
  have hsame : (s.testFreeSlot n).index = s.index ∧ (s.testFreeSlot n).halted = s.halted := by
    unfold State.testFreeSlot
    dsimp only
    split
    · exact ⟨rfl, rfl⟩
    · rw [damageFree_eq]
      exact ⟨rfl, rfl⟩
  refine ⟨fun m st b p q hm => ?_, hsame.2.trans hs.2⟩
  rcases hread m with h | h
  · rw [State.lookupKey, hsame.1]
    exact hs.1 m st b p q (h.symm.trans hm)
  · exact absurd (h.symm.trans hm) nofun

theorem cleanWf_of_empty {s : State} (h : s.slots = []) : s.CleanWf := by
  intro m st b p q hm
  rw [State.slot, h] at hm
  exact absurd hm nofun

/-! ## Every operation -/

theorem opKept_soundHealthy : OpKept State.SoundHealthy where
  aside s t h hs := by
    refine ⟨opKept_sound.aside s t h hs.1, ?_⟩
    obtain ⟨_, _, _, _, _, _, _, _, _, rfl⟩ := h
    exact hs.2
  charge s b k hs := verdictKept_soundHealthy.charge s b k
    (soundHealthy_of_keeps (tableKeeps_modifyBoard ⟨rfl, rfl⟩ (.inl rfl)) hs.1.2 ⟨rfl, rfl, rfl⟩ hs) hs
  credit s b hs := verdictKept_soundHealthy.credit s b
    (soundHealthy_of_keeps (tableKeeps_modifyBoard ⟨rfl, rfl⟩ (.inl rfl)) hs.1.2 ⟨rfl, rfl, rfl⟩ hs)
  enrol s b _ hs := verdictKept_soundHealthy.afterExit s _ (enterWarming_soundHealthy b hs)
  reinstate s b _ hs := verdictKept_soundHealthy.reconsider _ (enterWarming_soundHealthy b hs)
  retireActive s b _ ho hs := verdictKept_soundHealthy.afterExit s _ (leaveService_soundHealthy ho hs)
  retireDrained s b _ ho hs := verdictKept_soundHealthy.reconsider _ (leaveService_soundHealthy ho hs)
  declare s b hb hd hs := verdictKept_soundHealthy.afterExit s _ (verdictKept_soundHealthy.grant s b _ hd (.inr hb) hs)
  absolve s b _ hs := verdictKept_soundHealthy.afterExit s _ (absolveBoard_soundHealthy b hs)
  baseline s b c hs := ⟨opKept_sound.baseline s b c hs.1, hs.2⟩
  damage s n st b p q hslot hunclean hs := by
    have hclean := (hs.2.1 n st b p q hslot).1
    exact absurd (hclean.symm.trans hunclean) nofun
  halt s w h hs := absurd h (not_structureFails hs.1.1 hs.2.1 w)
  create s n rest b p hb hfree hkey hs := by
    refine ⟨opKept_sound.create s n rest b p hb hfree hkey hs.1, createRecord_cleanWf rest b hkey hs.2.1, ?_⟩
    rw [createRecord_eq]
    exact hs.2.2
  rewrite s n st st' b p q parity hslot hkey hlookup hs :=
    ⟨opKept_sound.rewrite s n st st' b p q parity hslot hkey hlookup hs.1, writeRecord_cleanWf st' b hkey hlookup hs.2.1, hs.2.2⟩
  retire s n hs := by
    refine ⟨opKept_sound.retire s n hs.1, retire_cleanWf n ((tableWf_iff s).1 hs.1.1).1 hs.2.1, ?_⟩
    obtain ⟨_, _, _, _, _, _, _, _, heq⟩ := retire_eq s n
    rw [heq]
    exact hs.2.2
  sample s b n hn hs := ⟨opKept_sound.sample s b n hn hs.1, hs.2⟩
  releases s b hs := ⟨opKept_sound.releases s b hs.1, hs.2⟩
  progress s b hs := ⟨opKept_sound.progress s b hs.1, hs.2⟩
  group s f _ hs := verdictKept_soundHealthy.afterSetgroup (s.modifyGroups f) hs
  thresholds s f _ hs := verdictKept_soundHealthy.afterSetgroup _ (verdictKept_soundHealthy.reevaluateBoards allBoards _ hs)
  guard s f _ hs := by
    refine verdictKept_soundHealthy.reconsider _ ?_
    unfold State.reevaluateCommon
    split <;> exact hs
  clear s hs := ⟨opKept_sound.clear s hs.1, cleanWf_of_empty rfl, rfl⟩
  startTest s inject hs := by
    refine ⟨opKept_sound.startTest s inject hs.1, ?_⟩
    unfold State.startTest
    rw [verifyGroups_eq]
    exact hs.2
  startPass s h hs := by
    refine ⟨opKept_sound.startPass s h hs.1, ?_⟩
    rw [startPass_eq]
    exact hs.2
  testFree s hslot hphase hs := ⟨opKept_sound.testFree s hslot hphase hs.1, testFreeSlot_healthy hs.2⟩
  moveOn s began hpass hclock hs := by
    refine ⟨opKept_sound.moveOn s began hpass hclock hs.1, ?_⟩
    obtain ⟨_, _, _, _, heq⟩ := afterVisit_eq began s
    rw [heq]
    exact hs.2
  grace s b hb hs := by
    refine ⟨opKept_sound.grace s b hb hs.1, ?_⟩
    rw [expireGrace_eq s b hb]
    exact hs.2
  pulse s b hb hs := ⟨opKept_sound.pulse s b hb hs.1, hs.2⟩
  lost s b hb hs := ⟨opKept_sound.lost s b hb hs.1, hs.2⟩
  stall s b hb hs := ⟨opKept_sound.stall s b hb hs.1, hs.2⟩

theorem soundHealthy_pinReset (s : State) : s.pinReset.SoundHealthy :=
  ⟨sound_pinReset s, cleanWf_of_empty rfl, rfl⟩

theorem soundHealthy_tick {s : State} (hs : s.SoundHealthy) : s.tick.SoundHealthy := hs

/-- Settles O58: in a sound and healthy state no check fails and no record reads unclean, and every operation keeps it so. -/
theorem soundTableNeverHalts : Obligations.SoundTableNeverHalts := by
  intro s t htable hsweep hclean hhalted ht
  have h : t.SoundHealthy := by
    refine opKept_soundHealthy.step ?_ soundHealthy_pinReset (fun s hs => ?_)
      (fun s hs => soundHealthy_tick (opKept_soundHealthy.endTu s hs)) ⟨⟨htable, hsweep⟩, hclean, hhalted⟩ ht
    · rintro s t ⟨_, _, _, _, _, _, _, rfl⟩ hs
      exact hs
    · unfold State.releaseReset
      split <;> exact hs
  exact h.2

end Sys2Proof.Machine

/-! SUPPORT. The queue, the reset pin, the receiver, the link checks and the frames of requests, and the statements about
them. -/

namespace Sys2Proof.Machine

/-- Settles O1: a step is the match on the queue. -/
theorem stepTakesFrontCommand : Obligations.StepTakesFrontCommand := by
  refine ⟨fun c rest s h => ?_, fun s h => ?_⟩ <;> unfold step <;> rw [h]

/-- Settles O2: what the release does at either level of the pin, and that a part in pin reset takes no other command. -/
theorem resetPinReleased : Obligations.ResetPinReleased := by
  refine ⟨fun s h => ?_, fun s h => ?_, fun i s h hpin hrelease => exec_held h hpin hrelease⟩
  · rw [exec_resetNReleased, State.releaseReset, if_pos h]
  · rw [exec_resetNReleased, State.releaseReset, if_neg (by simp [h])]

/-! ## The receiver (R161) -/

theorem receive_cons (s : State) (b : Byte) (bytes : List Byte) : s.receive (b :: bytes) = (s.receiveByte b).receive bytes := rfl

theorem receive_append (s : State) (l m : List Byte) : s.receive (l ++ m) = (s.receive l).receive m :=
  List.foldl_append

/-- Bytes that do not complete the BODY are gathered (R161). -/
theorem receive_body {s : State} {code tag len : Byte} (l got : List Byte) (hrx : s.rx = .body code tag len got)
    (hlen : got.length + l.length < len.toNat + 2) : s.receive l = { s with rx := .body code tag len (got ++ l) } := by
  induction l generalizing s got with
  | nil =>
    rw [List.append_nil, ← hrx]
    rfl
  | cons b l ih =>
    have hshort : (got ++ [b]).length ≠ len.toNat + 2 := by
      simp only [List.length_append, List.length_cons, List.length_nil] at hlen ⊢
      omega
    have hbyte : s.receiveByte b = { s with rx := .body code tag len (got ++ [b]) } := by
      unfold State.receiveByte
      rw [hrx]
      exact if_neg hshort
    rw [receive_cons, hbyte, ih (got ++ [b]) rfl (by simp only [List.length_append, List.length_cons, List.length_nil] at hlen ⊢; omega)]
    simp

/-- The byte that completes the BODY brings the frame (R161). -/
theorem receiveByte_last {s : State} {code tag len : Byte} {got : List Byte} (b : Byte) (hrx : s.rx = .body code tag len got)
    (hlen : got.length + 1 = len.toNat + 2) :
    s.receiveByte b = { s with rx := .hunting }.frameArrives (bodyFrame code tag len (got ++ [b])) := by
  have hfull : (got ++ [b]).length = len.toNat + 2 := by simpa using hlen
  unfold State.receiveByte
  rw [hrx]
  exact if_pos hfull

/-- The start byte, the code and the tag are taken while HUNTING and after (R161). -/
theorem receive_header {s : State} (hrx : s.rx = .hunting) (code tag : Byte) (rest : List Byte) :
    s.receive (0xA5 :: code :: tag :: rest) = State.receive { s with rx := .awaitLength code tag } rest := by
  rw [receive_cons, receive_cons, receive_cons]
  congr 1
  simp [State.receiveByte, hrx]

theorem be_two (n : Nat) : be 2 n = [BitVec.ofNat 8 (n / 256), BitVec.ofNat 8 n] := by simp [be]

theorem bodyFrame_bytes {f : Frame} (hlen : f.payload.length = f.len.toNat) :
    bodyFrame f.code f.tag f.len (f.payload ++ be 2 f.crc.toNat) = f := by
  have hcrc : BitVec.ofNat 16 (ofBe (be 2 f.crc.toNat)) = f.crc := by
    rw [ofBe_be]
    apply BitVec.eq_of_toNat_eq
    have := f.crc.isLt
    simp only [BitVec.toNat_ofNat]
    omega
  unfold bodyFrame
  rw [← hlen, List.take_left, List.drop_left, hcrc]

/-- A whole frame sent to a HUNTING receiver arrives with its last byte (R161). -/
theorem receive_frame_bytes {s : State} {f : Frame} (hrx : s.rx = .hunting) (h48 : f.len.toNat ≤ 48)
    (hlen : f.payload.length = f.len.toNat) : s.receive f.bytes = s.frameArrives f := by
  obtain ⟨c1, c2, hcrc⟩ : ∃ c1 c2, be 2 f.crc.toNat = [c1, c2] := ⟨_, _, be_two _⟩
  have hbytes : f.bytes = 0xA5 :: f.code :: f.tag :: f.len :: ((f.payload ++ [c1]) ++ [c2]) := by
    simp [Frame.bytes, Frame.covered, hcrc]
  let t : State := { s with rx := .body f.code f.tag f.len [] }
  have hlength : State.receiveByte { s with rx := .awaitLength f.code f.tag } f.len = t := if_neg (Nat.not_lt.2 h48)
  have hgathered : t.receive (f.payload ++ [c1]) = { t with rx := .body f.code f.tag f.len (f.payload ++ [c1]) } :=
    receive_body _ [] rfl (by simp [hlen])
  have hback : ({ s with rx := .hunting } : State) = s := by rw [← hrx]
  calc s.receive f.bytes
      = State.receiveByte { t with rx := .body f.code f.tag f.len (f.payload ++ [c1]) } c2 := by
        rw [hbytes, receive_header hrx, receive_cons, hlength, receive_append, hgathered]
        rfl
    _ = State.frameArrives { s with rx := .hunting } (bodyFrame f.code f.tag f.len (f.payload ++ [c1] ++ [c2])) :=
        receiveByte_last c2 rfl (by simp [hlen])
    _ = s.frameArrives f := by
        have hall : f.payload ++ [c1] ++ [c2] = f.payload ++ be 2 f.crc.toNat := by simp [hcrc]
        rw [hback, hall, bodyFrame_bytes hlen]

/-- An over-long frame arrives at its length byte (R161). -/
theorem receive_overLong {s : State} (hrx : s.rx = .hunting) (code tag : Byte) {len : Byte} (h48 : 48 < len.toNat) :
    s.receive [0xA5, code, tag, len] = s.frameArrives ⟨code, tag, len, [], 0⟩ := by
  have hback : ({ s with rx := .hunting } : State) = s := by rw [← hrx]
  calc s.receive [0xA5, code, tag, len]
      = State.receiveByte { s with rx := .awaitLength code tag } len := by rw [receive_header hrx]; rfl
    _ = State.frameArrives { s with rx := .hunting } ⟨code, tag, len, [], 0⟩ := if_pos h48
    _ = _ := by rw [hback]

theorem receive_ignored {s : State} (hrx : s.rx = .hunting) {bytes : List Byte} (h : ∀ b ∈ bytes, b ≠ 0xA5) :
    s.receive bytes = s := by
  induction bytes with
  | nil => rfl
  | cons b bytes ih =>
    have hbyte : s.receiveByte b = s := by
      unfold State.receiveByte
      rw [hrx]
      exact if_neg (h b List.mem_cons_self)
    rw [receive_cons, hbyte]
    exact ih fun c hc => h c (List.mem_cons_of_mem b hc)

theorem exec_frameArrival {s : State} (hr : s.resetHeld = false) (bytes : List Byte) :
    exec (.frameArrival bytes) s = .next ((s.receive bytes).driveReady).driveLines := takeEvent_next _ s hr

/-- A frame that arrives joins the buffer, READY following (R161). -/
theorem frameArrives_joins {s : State} (f : Frame) (h : s.buffer.length < 16) :
    (s.frameArrives f).driveReady = { s with buffer := s.buffer ++ [f], ready := decide (s.buffer.length + 1 ≤ 11) } := by
  rw [State.frameArrives, if_pos h]
  have hready : decide ((s.buffer ++ [f]).length < Config.readyLimit) = decide (s.buffer.length + 1 ≤ 11) :=
    decide_eq_decide.2 (by rw [List.length_append, List.length_singleton]; exact Nat.lt_succ_iff)
  rw [State.driveReady, hready]

/-- A frame that arrives at a full buffer is discarded and LINK latched (R161). -/
theorem frameArrives_discarded {s : State} (f : Frame) (h : 16 ≤ s.buffer.length) :
    (s.frameArrives f).driveReady =
      { s with
        ready := false
        latches := { s.latches with link := some (match s.latches.link with
          | none => ⟨s.clock, 1⟩
          | some k => { k with count := min 255 (k.count + 1) }) } } := by
  rw [State.frameArrives, if_neg (Nat.not_lt.2 h)]
  have hready : decide (s.latchLink.buffer.length < Config.readyLimit) = false :=
    decide_eq_false (Nat.not_lt.2 (Nat.le_trans (by decide) h))
  rw [State.driveReady, hready]
  cases hl : s.latches.link <;> simp [State.latchLink, State.modifyLatches, hl]

theorem next_driveLines_congr {t u : State} (h : t = u) :
    (.next t.driveLines : Host.Outcome State Fault Refusal) = .next u.driveLines := by rw [h]

/-- Settles O3: the receiver gathers a frame byte by byte, and what has arrived joins the buffer or is discarded. -/
theorem framesArrive : Obligations.FramesArrive := by
  refine ⟨fun s f hr hrx h48 hlen => ⟨fun h => ?_, fun h => ?_⟩, fun s code tag len hr hrx h48 => ⟨fun h => ?_, fun h => ?_⟩,
    fun s bytes hr hrx h => ?_⟩ <;> rw [exec_frameArrival hr]
  · rw [receive_frame_bytes hrx h48 hlen, frameArrives_joins f h]
  · rw [receive_frame_bytes hrx h48 hlen]
    exact next_driveLines_congr (frameArrives_discarded f h)
  · rw [receive_overLong hrx code tag h48, frameArrives_joins _ h]
  · rw [receive_overLong hrx code tag h48]
    exact next_driveLines_congr (frameArrives_discarded _ h)
  · have hready : decide (s.buffer.length < Config.readyLimit) = decide (s.buffer.length ≤ 11) :=
      decide_eq_decide.2 Nat.lt_succ_iff
    rw [receive_ignored hrx h, State.driveReady, hready]

/-! ## The link checks (R162, R169) -/

/-- A refused head frame is answered, with its code and tag as received (R162). -/
theorem exec_linkCheck_refused {s : State} {f : Frame} {rest : List Frame} {o : OutcomeCode} {p : List Byte} (hr : s.resetHeld = false)
    (hb : s.buffer = f :: rest) (hf : parseFrame f = .refused o p) :
    exec .linkCheck s = .next (s.popFrame.answer f.code f.tag o p).driveLines := by
  rw [show exec .linkCheck s = _ from takeEvent_next linkCheckEffect s hr]
  simp [linkCheckEffect, hb, hf]

theorem parseFrame_frameCheck {f : Frame} (h : f.overLong = true ∨ crc f.covered ≠ f.crc) : parseFrame f = .refused .frameCheck [] := by
  rcases h with h | h <;> simp [parseFrame, h]

theorem parseFrame_passed {f : Frame} (hlong : f.overLong = false) (hcrc : crc f.covered = f.crc) :
    parseFrame f = takePayload f.code.toNat f.tag f.payload := by
  simp [parseFrame, hlong, hcrc]

theorem takePayload_badCode {n : Nat} (tag : Byte) (p : List Byte) (h10 : n ≠ 0x10) (hn : requestLengths n = none) :
    takePayload n tag p = .refused .badCode [] := by
  unfold takePayload
  split
  case h_16 => exact absurd rfl h10
  case h_23 => rfl
  all_goals exact absurd hn (by simp [requestLengths])

theorem takePayload_badLength {n : Nat} (tag : Byte) {p : List Byte} {ns : List Nat} (hn : requestLengths n = some ns)
    (hp : p.length ∉ ns) : takePayload n tag p = .refused .badLength [] := by
  unfold takePayload
  split
  case h_16 => exact absurd hn (by simp [requestLengths])
  case h_23 =>
    unfold requestLengths at hn
    split at hn <;> simp_all
  all_goals
    obtain rfl := Option.some.inj hn
    simp_all [ofLength]

theorem groupLength_eq (n : Nat) : groupLength n = [3, 8, 8, 8, 8, 3, 12, 7, 9, 4, 4, 3][n]? := by
  by_cases h : n < 12
  · interval_cases n <;> rfl
  · rw [List.getElem?_eq_none (by simp; omega)]
    unfold groupLength
    split <;> first | omega | rfl

theorem field_head (group : Byte) (fields : List Byte) : field (group :: fields) 0 1 = group.toNat := by simp [field, ofBe]

theorem takeSetgroup_outOfRange (tag : Byte) {group : Byte} (fields : List Byte) (h : groupLength group.toNat = none) :
    takeSetgroup tag (group :: fields) = .refused .outOfRange [255] := by
  unfold takeSetgroup
  rw [field_head, h]
  rfl

theorem takeSetgroup_badLength (tag : Byte) {group : Byte} {fields : List Byte} {n : Nat} (h : groupLength group.toNat = some n)
    (hlen : fields.length ≠ n) : takeSetgroup tag (group :: fields) = .refused .badLength [] := by
  unfold takeSetgroup
  rw [field_head, h]
  simp [hlen]

/-- Settles O4: each check that fails gives its answer. -/
theorem linkCheckRefuses : Obligations.LinkCheckRefuses := by
  intro s f rest hr hb
  have hpassed (hlong : f.overLong = false) (hcrc : crc f.covered = f.crc) (hcode : f.code = 0x10) :
      parseFrame f = takeSetgroup f.tag f.payload := by
    rw [parseFrame_passed hlong hcrc, hcode]
    rfl
  refine ⟨fun h => exec_linkCheck_refused hr hb (parseFrame_frameCheck h), fun hlong hcrc h10 hcode => ?_,
    fun ns hlong hcrc hcode hlen => ?_, fun hlong hcrc hcode hempty => ?_, fun group fields hlong hcrc hcode hp => ⟨fun h12 => ?_, fun n hn hlen => ?_⟩⟩
  · refine exec_linkCheck_refused hr hb ((parseFrame_passed hlong hcrc).trans (takePayload_badCode _ _ (fun h => h10 ?_) hcode))
    exact BitVec.eq_of_toNat_eq h
  · exact exec_linkCheck_refused hr hb ((parseFrame_passed hlong hcrc).trans (takePayload_badLength _ hcode hlen))
  · refine exec_linkCheck_refused hr hb ((hpassed hlong hcrc hcode).trans ?_)
    rw [hempty]
    rfl
  · rw [← hcode]
    refine exec_linkCheck_refused hr hb ((hpassed hlong hcrc hcode).trans ?_)
    rw [hp]
    refine takeSetgroup_outOfRange _ _ ?_
    rw [groupLength_eq]
    exact List.getElem?_eq_none (by simpa using h12)
  · rw [← hcode]
    refine exec_linkCheck_refused hr hb ((hpassed hlong hcrc hcode).trans ?_)
    rw [hp]
    exact takeSetgroup_badLength _ ((groupLength_eq _).trans hn) hlen

/-! ## The fields of a payload (R160) -/

theorem field_skip {l p : List Byte} {i k : Nat} (h : l.length ≤ i) : field (l ++ p) i k = field p (i - l.length) k := by
  unfold field
  rw [List.drop_append, List.drop_eq_nil_of_le h, List.nil_append]

theorem field_here (l p : List Byte) : field (l ++ p) 0 l.length = ofBe l := by
  unfold field
  rw [List.drop_zero, List.take_left]

theorem field_cons {b : Byte} {p : List Byte} {i k : Nat} (h : 1 ≤ i) : field (b :: p) i k = field p (i - 1) k :=
  field_skip (l := [b]) h

theorem field_be {j n i k : Nat} {p : List Byte} (h : j ≤ i) : field (be j n ++ p) i k = field p (i - j) k := by
  rw [field_skip (by simpa using h), length_be]

/-- A number of k bytes at the head of a payload. -/
theorem number_of_field (k : Nat) (x : BitVec (8 * k)) (p : List Byte) : BitVec.ofNat (8 * k) (field (be k x.toNat ++ p) 0 k) = x := by
  have h : field (be k x.toNat ++ p) 0 k = ofBe (be k x.toNat) := by
    have := field_here (be k x.toNat) p
    rwa [length_be] at this
  have hx : x.toNat < 256 ^ k := by
    have := x.isLt
    rwa [pow_mul] at this
  rw [h, ofBe_be, Nat.mod_eq_of_lt hx, BitVec.ofNat_toNat, BitVec.setWidth_eq]

theorem word_of_field (w : BitVec 16) (p : List Byte) : BitVec.ofNat 16 (field (be 2 w.toNat ++ p) 0 2) = w := number_of_field 2 w p

theorem triple_of_field (w : BitVec 24) (p : List Byte) : BitVec.ofNat 24 (field (be 3 w.toNat ++ p) 0 3) = w := number_of_field 3 w p

theorem quad_of_field (w : BitVec 32) (p : List Byte) : BitVec.ofNat 32 (field (be 4 w.toNat ++ p) 0 4) = w := number_of_field 4 w p

/-- What remains of a payload when its last field is read. -/
theorem last_of_field :
    (∀ w : BitVec 16, BitVec.ofNat 16 (field (be 2 w.toNat) 0 2) = w) ∧ (∀ w : BitVec 24, BitVec.ofNat 24 (field (be 3 w.toNat) 0 3) = w)
      ∧ ∀ w : BitVec 32, BitVec.ofNat 32 (field (be 4 w.toNat) 0 4) = w := by
  refine ⟨fun w => ?_, fun w => ?_, fun w => ?_⟩
  · simpa using word_of_field w []
  · simpa using triple_of_field w []
  · simpa using quad_of_field w []

/-! ## The frame of a request stands for it (R160, R163) -/

theorem parseFrame_frameOf (code tag : Byte) {p : List Byte} (hp : p.length ≤ 48) :
    parseFrame (frameOf code tag p) = takePayload code.toNat tag p := by
  have hlen : (BitVec.ofNat 8 p.length : Byte).toNat = p.length := by
    rw [BitVec.toNat_ofNat]
    exact Nat.mod_eq_of_lt (by omega)
  exact parseFrame_passed (f := frameOf code tag p) (decide_eq_false (by simp only [frameOf, hlen]; omega)) rfl

/-- The payload of each request is taken for it, each field at its place (R163, R169). -/
theorem takePayload_requestParts {i : Instr} {x : Byte × Byte × List Byte} (h : requestParts i = some x) :
    takePayload x.1.toNat x.2.1 x.2.2 = .request i := by
  have hfields := And.intro @field_head (And.intro @field_cons (And.intro @field_be (And.intro word_of_field (And.intro triple_of_field
    (And.intro quad_of_field last_of_field)))))
  cases i
  case frameArrival | linkCheck | pinReset | tuStep | passStart | sweepVisit | graceExpiry | pulse | lostExpiry | stallExpiry
      | resetNReleased => exact absurd h nofun
  all_goals obtain rfl := Option.some.inj h
  case lodge t b k c r =>
    cases r <;> simp [takePayload, ofLength, byteField, keyField, keyBytes, hfields]
  case setgroupProfile t c f =>
    fin_cases c <;> simp [takePayload, takeSetgroup, setgroupRequest, groupLength, Profile.bytes, byteField, wordField, hfields]
  case setwatch t u w =>
    simp [takePayload, ofLength, WatchSettings.bytes, byteField, keyField, keyBytes, hfields]
  case setgroupTimebase | setgroupLatency | setgroupWeights | setgroupThresholds | setgroupHeartbeat | setgroupGuard
      | setgroupTable | setgroupMasks =>
    simp [takePayload, takeSetgroup, setgroupRequest, groupLength, byteField, wordField, Timebase.bytes, Latency.bytes,
      Weights.bytes, Thresholds.bytes, Heartbeat.bytes, Guard.bytes, TableSettings.bytes, Masks.bytes, hfields]
  all_goals simp [takePayload, ofLength, byteField, wordField, keyField, keyBytes, hfields]

theorem payload_fits {i : Instr} {x : Byte × Byte × List Byte} (h : requestParts i = some x) : x.2.2.length ≤ 48 := by
  cases i
  case frameArrival | linkCheck | pinReset | tuStep | passStart | sweepVisit | graceExpiry | pulse | lostExpiry | stallExpiry
      | resetNReleased => exact absurd h nofun
  case lodge => exact Laws.PayloadFits.lodge _ _ _ _ _ x h
  all_goals
    obtain rfl := Option.some.inj h
    simp

theorem requestFrame_eq_some {i : Instr} {f : Frame} (h : requestFrame i = some f) :
    ∃ x, requestParts i = some x ∧ f = frameOf x.1 x.2.1 x.2.2 := by
  obtain ⟨x, hx, rfl⟩ := Option.map_eq_some_iff.1 h
  exact ⟨x, hx, rfl⟩

/-- The frame a router sends for a request stands for that request (R160, R163). -/
theorem parseFrame_requestFrame {i : Instr} {f : Frame} (h : requestFrame i = some f) : parseFrame f = .request i := by
  obtain ⟨x, hx, rfl⟩ := requestFrame_eq_some h
  rw [parseFrame_frameOf _ _ (payload_fits hx), takePayload_requestParts hx]

/-! ## A frame handed over (R162) -/

theorem takeOff_of_head {s : State} {i : Instr} {f : Frame} {rest : List Frame} (hb : s.buffer = f :: rest)
    (hf : parseFrame f = .request i) : s.takeOff i = s.popFrame := by
  simp [State.takeOff, State.popFrame, hb, hf]

theorem takeOff_of_other {s : State} {i : Instr} (h : ∀ f rest, s.buffer = f :: rest → parseFrame f ≠ .request i) : s.takeOff i = s := by
  unfold State.takeOff
  split
  · rfl
  next f rest hb => rw [if_neg (h f rest hb)]

theorem popFrame_eq {s : State} {f : Frame} {rest : List Frame} (hb : s.buffer = f :: rest) :
    s.popFrame = { s with buffer := rest, ready := decide (rest.length ≤ 11) } := by
  have hready : decide (rest.length < Config.readyLimit) = decide (rest.length ≤ 11) := decide_eq_decide.2 Nat.lt_succ_iff
  simp only [State.popFrame, State.driveReady, hb, List.tail_cons, hready]

/-- Settles O5: LINK_CHECK and the request itself take the same frame off and serve the same request. -/
theorem requestFrameTaken : Obligations.RequestFrameTaken := by
  refine ⟨fun s f rest i hr hb hf => ?_, fun s i f hf => ⟨fun rest hb => ?_, fun hb => ?_, fun g rest hb hg => ?_⟩, fun s code tag o p => rfl⟩
  · have hparse := parseFrame_requestFrame hf
    obtain ⟨x, hx, -⟩ := requestFrame_eq_some hf
    have hrequest : (requestParts i).isSome = true := by simp [hx]
    rw [exec_served hrequest hr rfl, takeOff_of_head hb hparse]
    rw [show exec .linkCheck s = _ from takeEvent_next linkCheckEffect s hr]
    simp [linkCheckEffect, hb, hparse]
  · rw [takeOff_of_head hb (parseFrame_requestFrame hf), popFrame_eq hb]
  · exact takeOff_of_other fun g rest hg => absurd (hb.symm.trans hg) nofun
  · refine takeOff_of_other fun g' rest' hb' => ?_
    obtain ⟨rfl, -⟩ := List.cons.inj (hb.symm.trans hb')
    exact hg

/-! ## Bytes on the line (R160, R171) -/

theorem requestFrame_eq_none_iff (i : Instr) : requestFrame i = none ↔ requestParts i = none := by simp [requestFrame]

theorem bytesFromLine_bytesOnLine (bytes : List Byte) : bytesFromLine (bytesOnLine bytes) = some bytes := by
  induction bytes with
  | nil => rfl
  | cons b bytes ih =>
    have hcons : bytesOnLine (b :: bytes) = byteOnLine b ++ bytesOnLine bytes := rfl
    rw [hcons, bytesFromLine_byteOnLine, ih]
    rfl

theorem crc_append_byte (bytes : List Byte) (b : Byte) : crc (bytes ++ [b]) =
    (List.range 8).foldl (fun (r : BitVec 16) _ => if r.msb = true then (r <<< 1) ^^^ 0x1021#16 else r <<< 1)
      (crc bytes ^^^ (b.zeroExtend 16 <<< 8)) := by
  rw [crc, List.foldl_append]
  rfl

theorem transmitted_append (s : State) (r : Response) :
    ({ s with tx := s.tx ++ [r] } : State).transmitted = s.transmitted ++ bytesOnLine r.bytes := by
  simp [State.transmitted, List.flatMap_append]

/-- Settles O6: each request's frame is written out and parsed back field by field; bytes on the line read back. -/
theorem requestFramesReadBack : Obligations.RequestFramesReadBack := by
  refine ⟨fun i f => parseFrame_requestFrame, fun i => ?_, ?_, fun f => ?_, fun n => ?_, by decide +kernel, rfl, crc_append_byte,
    fun b => rfl, bytesFromLine_bytesOnLine, fun s r => transmitted_append s r⟩
  · rw [requestFrame_eq_none_iff]
    cases i <;> simp [requestParts]
  · intro sends key t x y k m w r
    refine ⟨?_, ?_, ?_, ?_, ?_, ?_, ?_, ?_, ?_, ?_, ?_, ?_, ?_, ?_, ?_, ?_, ?_, fun en kind low high events => ?_, ?_, ?_, ?_, ?_,
      fun f => ?_, fun c f => ?_, fun f => ?_, fun f => ?_, fun f => ?_, fun f => ?_, fun f => ?_, fun f => ?_, fun f => ?_⟩
    all_goals simp [sends, key, requestFrame, requestParts, frameOf, keyBytes, WatchSettings.bytes, Timebase.bytes, Profile.bytes,
      Latency.bytes, Weights.bytes, Thresholds.bytes, Heartbeat.bytes, Guard.bytes, TableSettings.bytes, Masks.bytes]
  · simp [Frame.bytes, Frame.covered, be_two]
  · simp [be]

end Sys2Proof.Machine

/-! SUPPORT. The watch units: what an event offered to a watch set latches, and which units a new record's set holds. -/

namespace Sys2Proof.Machine

/-! ## Events offered (R138, R139) -/

/-- What an event latches in a unit, before it is known which units it is offered to (R139). -/
def State.watchLatch (s : State) (e : WatchEvent) (n : Nat) (b : Bd) (k : Key) (u : Fin 4) : WatchLatch :=
  ⟨s.clock, e, n, b, k, s.latches.watch[u.val].isSome⟩

/-- An event offered to one unit after another is latched by those of the set that latch it, and changes nothing else. -/
theorem offer_to_units (us : List (Fin 4)) (hus : us.Nodup) (s : State) (e : WatchEvent) (n : Nat) (b : Bd) (k : Key) (w : BitVec 4) :
    let t := us.foldl (fun t u => if w.getLsbD u.val && t.unitLatches e u then t.latchWatch u e n b k else t) s
    (∀ u : Fin 4, t.latches.watch[u.val] =
      if u ∈ us ∧ (w.getLsbD u.val && s.unitLatches e u) = true then some (s.watchLatch e n b k u) else s.latches.watch[u.val])
    ∧ { t with latches := { t.latches with watch := s.latches.watch } } = s := by
  induction us generalizing s with
  | nil => exact ⟨fun u => by simp, rfl⟩
  | cons v us ih =>
    obtain ⟨hv, hus⟩ := List.nodup_cons.1 hus
    rw [List.foldl_cons]
    split
    next hc =>
      obtain ⟨hwatch, hrest⟩ := ih hus (s.latchWatch v e n b k)
      refine ⟨fun u => (hwatch u).trans ?_, ?_⟩
      · have hlatches : (s.latchWatch v e n b k).unitLatches e u = s.unitLatches e u := rfl
        by_cases huv : u = v
        · subst huv
          rw [if_neg fun h => hv h.1, if_pos ⟨List.mem_cons_self, hc⟩]
          simp [State.latchWatch, State.watchLatch, State.modifyLatches]
        · have hval : v.val ≠ u.val := fun h => huv (Fin.ext h.symm)
          have hother : (s.latchWatch v e n b k).latches.watch[u.val] = s.latches.watch[u.val] := Vector.getElem_set_ne v.isLt u.isLt hval
          have hlatch : (s.latchWatch v e n b k).watchLatch e n b k u = s.watchLatch e n b k u := by
            simp only [State.watchLatch, hother]
            rfl
          rw [hlatches, hlatch, hother]
          simp [huv]
      · exact congrArg (fun t : State => { t with latches := { t.latches with watch := s.latches.watch } }) hrest
    next hc =>
      obtain ⟨hwatch, hrest⟩ := ih hus s
      refine ⟨fun u => (hwatch u).trans ?_, hrest⟩
      by_cases huv : u = v
      · subst huv
        rw [if_neg fun h => hv h.1, if_neg fun h => hc h.2]
      · simp [huv]

theorem offer_watch (s : State) (e : WatchEvent) (n : Nat) (b : Bd) (k : Key) (w : BitVec 4) (u : Fin 4) :
    (s.offer e n b k w).latches.watch[u.val] =
      if (w.getLsbD u.val && s.unitLatches e u) = true then some (s.watchLatch e n b k u) else s.latches.watch[u.val] := by
  have hall : u ∈ allUnits := by revert u; decide
  have h := (offer_to_units allUnits (by decide) s e n b k w).1 u
  rwa [if_congr (and_iff_right hall) rfl rfl] at h

/-- An offered event changes the watch latches alone. -/
theorem offer_frame (s : State) (e : WatchEvent) (n : Nat) (b : Bd) (k : Key) (w : BitVec 4) :
    { s.offer e n b k w with latches := { (s.offer e n b k w).latches with watch := s.latches.watch } } = s :=
  (offer_to_units allUnits (by decide) s e n b k w).2

/-- What an event latches does not depend on the other latches, which it leaves. -/
theorem offer_latches_of_watch {s t : State} {ls : Latches} (hu : t.units = s.units) (hc : t.clock = s.clock)
    (hl : t.latches = { ls with watch := s.latches.watch }) (e : WatchEvent) (n : Nat) (b : Bd) (k : Key) (w : BitVec 4) :
    (t.offer e n b k w).latches = { ls with watch := (s.offer e n b k w).latches.watch } := by
  have hunit : t.unit = s.unit := by
    funext u
    simp only [State.unit, hu]
  have hwatch : (t.offer e n b k w).latches.watch = (s.offer e n b k w).latches.watch := by
    refine Vector.ext fun j hj => ?_
    rw [offer_watch t e n b k w ⟨j, hj⟩, offer_watch s e n b k w ⟨j, hj⟩]
    have hlatches : t.unitLatches e = s.unitLatches e := by
      funext u
      simp only [State.unitLatches, State.paired, hunit]
    have hlatch : t.watchLatch e n b k = s.watchLatch e n b k := by
      funext u
      simp only [State.watchLatch, hc, hl]
    rw [hlatches, hlatch, hl]
  have hframe := congrArg State.latches (offer_frame t e n b k w)
  have hlatches : (t.offer e n b k w).latches = { t.latches with watch := (t.offer e n b k w).latches.watch } := by
    rw [← hframe]
  rw [hlatches, hwatch, hl]

/-! ## The watch set of a new record (R136, R137) -/

theorem getLsbD_ofBits_four (f : Fin 4 → Bool) (u : Fin 4) : (BitVec.ofNat 4 (ofBits (allUnits.map f))).getLsbD u.val = f u := by
  have hbits : ∀ (b0 b1 b2 b3 : Bool) (u : Fin 4), (BitVec.ofNat 4 (ofBits [b0, b1, b2, b3])).getLsbD u.val = ![b0, b1, b2, b3] u := by
    decide
  have h := hbits (f 0) (f 1) (f 2) (f 3) u
  fin_cases u <;> exact h

theorem xor_and_eq_zero_iff {w : Nat} (x y m : BitVec w) : (x ^^^ y) &&& m = 0#w ↔ x &&& m = y &&& m := by
  have hdistrib : (x ^^^ y) &&& m = (x &&& m) ^^^ (y &&& m) :=
    BitVec.eq_of_getLsbD_eq fun i _ => by simp [Bool.and_xor_distrib_right]
  rw [hdistrib, BitVec.xor_eq_zero_iff]

theorem keyNumber_le_iff (j k : Key) :
    keyNumber j ≤ keyNumber k ↔ j.terminal < k.terminal ∨ j.terminal = k.terminal ∧ j.sequence ≤ k.sequence := by
  have hj := j.sequence.isLt
  have hk := k.sequence.isLt
  rw [BitVec.lt_def, BitVec.le_def, ← BitVec.toNat_inj, keyNumber, keyNumber]
  omega

/-- Settles O18: each unit latches as the event, the set and the unit's own settings say, and matches as its kind says. -/
theorem watchUnitsMatchAndLatch : Obligations.WatchUnitsMatchAndLatch := by
  refine ⟨fun s e n b key w => ⟨fun u => ?_, offer_frame s e n b key w⟩, fun s key b u => ?_⟩
  · rw [offer_watch]
    refine if_congr ?_ rfl rfl
    simp [State.unitLatches, State.paired]
    tauto
  · rw [State.matchSet, getLsbD_ofBits_four]
    have hle := keyNumber_le_iff
    unfold State.unitMatches
    cases hkind : (s.unit u).kind <;> simp [WatchUnit.matchesKey, xor_and_eq_zero_iff, State.paired, hle]
    all_goals tauto

end Sys2Proof.Machine

/-! SUPPORT. The transaction requests: judgements, parity, and the accepted LODGE, ADVANCE and RELEASE. -/

namespace Sys2Proof.Machine

/-! ## Judging lateness (R28) -/

/-- Settles O9: the judgement is read off the overdue mark, the past test and the board's state. -/
theorem latenessJudged : Obligations.LatenessJudged := by
  refine ⟨rfl, rfl, fun now st p hst => ?_⟩
  have hself : now = p.deadline → (now - p.deadline).toNat < 2 ^ 31 := by
    rintro rfl
    simp
  have hpast : past now p.deadline = true ↔ (now - p.deadline).toNat < 2 ^ 31 := decide_eq_true_iff
  simp only [← Nat.not_lt]
  generalize ((now - p.deadline).toNat < 2 ^ 31) = reached at *
  by_cases hmarked : p.overdue = none
  · by_cases hlate : reached
    · rcases hst with rfl | rfl | rfl <;> simp [judge, hmarked, hpast.2 hlate, hlate, Chargeable]
    · have hjudge : judge now st p = .onTime := by
        simp [judge, hmarked, Bool.eq_false_iff.2 fun h => hlate (hpast.1 h)]
      have hnot : now ≠ p.deadline := fun h => hlate (hself h)
      rw [hjudge]
      simp [hmarked, hlate, hnot]
  · have hsome : p.overdue.isSome = true := Option.isSome_iff_ne_none.2 hmarked
    simp [judge, hsome, hmarked]

/-! ## The parity code (R151) -/

/-- The parity of a run of bits. -/
def listParity (l : List Bool) : Bool := l.foldr xor false

theorem listParity_append (l m : List Bool) : listParity (l ++ m) = (listParity l ^^ listParity m) := by
  induction l with
  | nil => simp [listParity]
  | cons a l ih =>
    simp only [List.cons_append, listParity, List.foldr_cons] at ih ⊢
    rw [ih, Bool.xor_assoc]

theorem listParity_wordBits (x w : Nat) : listParity (wordBits w x) = bitParity x w := by
  induction w with
  | zero => rfl
  | succ w ih =>
    have hsucc : wordBits (w + 1) x = wordBits w x ++ [x.testBit w] := by simp [wordBits, List.range_succ]
    rw [hsucc, listParity_append, ih, bitParity, Bool.xor_comm]
    simp [listParity]

theorem listParity_optBits (w : Nat) (o : Option Nat) : listParity (optBits w o) = optParity w o := by
  cases o with
  | none =>
    have hzeros : ∀ k, listParity (List.replicate k false) = false := fun k => by
      induction k with
      | zero => rfl
      | succ k ih => simpa [List.replicate_succ, listParity] using ih
    exact hzeros (w + 1)
  | some x =>
    have h := listParity_wordBits x w
    simp only [listParity] at h
    simp [optBits, optParity, listParity, h]

/-- The parity code of a payload is the parity of its bits. -/
theorem parityOf_eq (p : Payload) : parityOf p = listParity (payloadBits p) := by
  unfold payloadBits parityOf
  simp only [listParity_append, listParity_wordBits, listParity_optBits]
  simp [listParity]

/-- Two runs of as many bits differ in parity exactly if they differ in an odd number of bits. -/
theorem listParity_xor {l m : List Bool} (h : l.length = m.length) :
    (listParity l ^^ listParity m) = decide ((l.zip m).countP (fun x => x.1 != x.2) % 2 = 1) := by
  induction l generalizing m with
  | nil =>
    obtain rfl := List.length_eq_zero_iff.1 h.symm
    rfl
  | cons a l ih =>
    cases m with
    | nil => exact absurd h (by simp)
    | cons b m =>
      have htail := ih (m := m) (by simpa using h)
      simp only [listParity, List.foldr_cons, List.zip_cons_cons, List.countP_cons] at htail ⊢
      have hswap : ∀ c d e f : Bool, ((c ^^ d) ^^ (e ^^ f)) = ((c ^^ e) ^^ (d ^^ f)) := by decide
      rw [hswap, htail]
      cases a <;> cases b <;> simp <;> grind

theorem readsClean_of_changed {p q : Payload} (h : bitsChanged p q % 2 = 1) : readsClean q (parityOf p) = false := by
  have hxor := listParity_xor (l := payloadBits p) (m := payloadBits q) (by rw [length_payloadBits, length_payloadBits])
  have hodd : (parityOf p ^^ parityOf q) = true := by
    rw [parityOf_eq, parityOf_eq, hxor]
    exact decide_eq_true h
  unfold readsClean
  revert hodd
  cases parityOf p <;> cases parityOf q <;> decide

theorem damageRecord_lookupKey {s : State} (hm : mapWf s.index = true) (n : Nat) (b : Bd) (p : Payload) (parity : Bool) (key : Key) :
    (s.damageRecord n b p parity).lookupKey key = if s.lookupKey key = some n then none else s.lookupKey key := by
  have h : (s.damageRecord n b p parity).lookupKey key = (s.lookupKey key).filter fun j => j != n :=
    mapFind_filter (fun j => j != n) (keyNumber key) s.index hm
  rw [h]
  cases s.lookupKey key with
  | none => rfl
  | some j => by_cases hj : j = n <;> simp [Option.filter, hj]

/-- Settles O16: the index loses the slot's own entry, and parity tells every odd number of changed bits. -/
theorem damagedRecordKeepsItsPlace : Obligations.DamagedRecordKeepsItsPlace := by
  refine ⟨fun s n b p parity hm => ⟨damageRecord_lookupKey hm n b p parity, fun m => damageRecord_slot s n m b p parity,
    fun c => damageRecord_board s n b c p parity, ?_⟩, fun p => by simp [readsClean], fun p q => readsClean_of_changed⟩
  unfold State.damageRecord State.latchDamage State.modifyLatches
  cases hd : s.latches.damage <;> simp [State.modifyBoard, State.setSlot, State.dropIndexOf, State.board, hd]

end Sys2Proof.Machine

/-! SUPPORT. The accepted LODGE, ADVANCE and RELEASE, and the statements about them. -/

namespace Sys2Proof.Machine

/-! ## What an event latches after other changes -/

/-- An offered event leaves all latches but those of the watch units. -/
theorem offer_latches_eq (s : State) (e : WatchEvent) (n : Nat) (b : Bd) (k : Key) (w : BitVec 4) :
    (s.offer e n b k w).latches = { s.latches with watch := (s.offer e n b k w).latches.watch } :=
  offer_latches_of_watch rfl rfl rfl e n b k w

theorem andNot_eq_ite (a : Bool) (p : Prop) [Decidable p] : (a && !decide p) = if a = true ∧ p then false else a := by
  cases a <;> by_cases hp : p <;> simp [hp]

/-! ## LODGE (R12, R25, R26, R70) -/

section Lodge

variable {t : State} {tag board cls : Byte} {key : Key} {router : Option (BitVec 32)} {b : Bd} {c : Fin 4} {n : Nat} {rest : List Nat}

theorem lodgeChecked_accepted (hb : InService (t.board b).state) (hp : (t.profile c).valid = true) (hk : t.lookupKey key = none)
    (hq : (t.board b).outstanding < t.quota) (hf : t.free = n :: rest) :
    t.lodgeChecked tag b key c router = t.lodgeInto tag b (t.newPayload b key c router) n rest := by
  simp [State.lodgeChecked, (isActive_iff _).2 hb, hp, hk, Nat.not_le.2 hq, hf]

/-- A record created and its LODGE event offered: the table, the board's record and the latches (R12, R17, R25). -/
theorem createRecord_offered (t : State) (n : Nat) (rest : List Nat) (b : Bd) (p : Payload) :
    let crosses := t.tableHighArmed = true ∧ t.highMark ≤ t.occupancy + 1
    (t.createRecord n rest b p).offer .lodge n b p.key p.watchSet =
      { t with
        slots := mapPut n (.record .lodged b p (parityOf p)) t.slots, index := mapPut (keyNumber p.key) n t.index
        free := rest, lists := t.lists.set b.val (t.list b ++ [n]) b.isLt, occupancy := t.occupancy + 1
        tableHighArmed := if crosses then false else t.tableHighArmed
        latches := { (t.offer .lodge n b p.key p.watchSet).latches with
          tableHigh := if crosses then some (t.latches.tableHigh.getD ⟨t.clock, t.occupancy + 1⟩) else t.latches.tableHigh }
        boards := t.boards.set b.val ((t.board b).lodged (t.after t.stallLimit)) b.isLt } := by
  intro crosses
  have hlatches := offer_latches_of_watch (s := t) (t := t.createRecord n rest b p)
    (ls := { t.latches with tableHigh := if crosses then some (t.latches.tableHigh.getD ⟨t.clock, t.occupancy + 1⟩) else t.latches.tableHigh })
    (by rw [createRecord_eq]) (by rw [createRecord_eq]) (by rw [createRecord_eq]) .lodge n b p.key p.watchSet
  rw [offer_eq, hlatches, createRecord_eq, andNot_eq_ite, offer_latches_eq t]

end Lodge

theorem takeOff_newPayload (s : State) (i : Instr) (b : Bd) (k : Key) (c : Fin 4) (r : Option (BitVec 32)) :
    (s.takeOff i).newPayload b k c r = s.newPayload b k c r := by
  rw [takeOff_eq]
  rfl

/-- What an event latches does not read the request's frame. -/
theorem takeOff_offer_latches (s : State) (i : Instr) (e : WatchEvent) (n : Nat) (b : Bd) (k : Key) (w : BitVec 4) :
    ((s.takeOff i).offer e n b k w).latches = (s.offer e n b k w).latches :=
  offer_latches_congr (by simp) (by simp) (by simp) e n b k w

/-- A frame's taking leaves the times and limits that the settings and the clock give. -/
theorem takeOff_times (s : State) (i : Instr) :
    (∀ n, (s.takeOff i).after n = s.after n) ∧ (s.takeOff i).stallLimit = s.stallLimit ∧ (∀ c, (s.takeOff i).settle c = s.settle c)
      ∧ (s.takeOff i).gain = s.gain ∧ (s.takeOff i).seed = s.seed ∧ (s.takeOff i).graceLength = s.graceLength := by
  rw [takeOff_eq]
  exact ⟨fun _ => rfl, rfl, fun _ => rfl, rfl, rfl, rfl⟩

/-- Settles O7: the checks pass without the request's frame as with it, and the creation is read off its equation. -/
theorem lodgeAccepted : Obligations.LodgeAccepted := by
  intro s tag board cls key router b c n rest hr hh hb hc hst hp hk hq hf i f p crosses u
  have hchecked : serve i (s.takeOff i) = (s.takeOff i).lodgeInto tag b ((s.takeOff i).newPayload b key c router) n rest :=
    (serveLodge_inRange (by simpa using hh) hb hc).trans
      (lodgeChecked_accepted (by simpa using hst) (by simpa using hp) (by simpa using hk) (by simpa using hq) (by simpa using hf))
  refine exec_served rfl hr (hchecked.trans ?_)
  rw [takeOff_newPayload, State.lodgeInto, createRecord_offered, takeOff_offer_latches]
  simp only [takeOff_rest, takeOff_reads, takeOff_settings, takeOff_times, u, crosses]
  rfl

/-! ## ADVANCE (R31, R33, R34, R66, R72) -/

theorem setsMark_iff (j : Judgement) : j.setsMark = true ↔ j = .charged ∨ j = .excused := by cases j <;> simp [Judgement.setsMark]

theorem chargeStage_eq (s : State) (b : Bd) (st : Stage) (j : Judgement) :
    s.chargeStage b st j = if j = .charged then s.charge b (match st with | .lodged => .authOver | .decided => .settleOver) else s := by
  cases j <;> rfl

theorem offerOverdue_eq (s : State) (j : Judgement) (n : Nat) (b : Bd) (p : Payload) :
    s.offerOverdue j n b p = { s with latches := (s.offerOverdue j n b p).latches } := by
  unfold State.offerOverdue
  split
  · exact offer_eq s _ _ _ _ _
  · rfl

/-- An event latches alike in states that latch alike. -/
theorem LatchAlike.offer {s t : State} (h : LatchAlike s t) (e : WatchEvent) (n : Nat) (b : Bd) (k : Key) (w : BitVec 4) :
    LatchAlike (s.offer e n b k w) (t.offer e n b k w) := by
  obtain ⟨hu, hc, hl⟩ := h
  have hlatches := offer_latches_congr hu hc hl e n b k w
  rw [offer_eq s, offer_eq t]
  exact ⟨hu, hc, hlatches⟩

/-- The OVERDUE event of a judgement, for a record that keeps its key and its watch set (R29). -/
theorem LatchAlike.offerOverdue {s t : State} (h : LatchAlike s t) (j : Judgement) (n : Nat) (b : Bd) {p : Payload} {k : Key}
    {w : BitVec 4} (hk : p.key = k) (hw : p.watchSet = w) :
    LatchAlike (if j = .charged ∨ j = .excused then s.offer .overdue n b k w else s) (t.offerOverdue j n b p) := by
  unfold State.offerOverdue
  rw [hk, hw]
  by_cases hj : j = .charged ∨ j = .excused
  · rw [if_pos hj, if_pos ((setsMark_iff j).2 hj)]
    exact h.offer _ _ _ _ _
  · rw [if_neg hj, if_neg fun h => hj ((setsMark_iff j).1 h)]
    exact h

/-- The two events change the latches alone. -/
theorem overdueThen_eq (s : State) (j : Judgement) (e : WatchEvent) (n : Nat) (b : Bd) (p : Payload) (k : Key) (w : BitVec 4) :
    (s.offerOverdue j n b p).offer e n b k w = { s with latches := ((s.offerOverdue j n b p).offer e n b k w).latches } := by
  rw [offer_eq, offerOverdue_eq]

section Advance

variable {t : State} {tag : Byte} {key : Key} {approval : BitVec 32} {n : Nat} {b : Bd} {p : Payload} {parity : Bool}

theorem serveAdvance_accepted (hh : t.halted = false) (hk : t.lookupKey key = some n) (hs : t.slot n = some (.record .lodged b p parity))
    (hb : InService (t.board b).state) (hp : readsClean p parity = true) (hkey : p.key = key) :
    serveAdvance tag key approval t = t.advanceRecord tag n b p approval := by
  have hsilent : (t.board b).state ≠ .silent := by rcases hb with hb | hb | hb <;> rw [hb] <;> nofun
  simp [serveAdvance, hh, hk, hs, hsilent, hp, hkey]

end Advance

/-- Settles O11: the re-staged record, its events and its report, then the charge. -/
theorem advanceRestages : Obligations.AdvanceRestages := by
  intro s tag key approval n b p parity hr hh hk hs hb hp hkey
  subst hkey
  intro i j late q sample offered u
  have hserve : serve i (s.takeOff i) = (s.takeOff i).advanceRecord tag n b p approval :=
    serveAdvance_accepted (by simpa using hh) (by simpa using hk) (by simpa using hs) (by simpa using hb) hp rfl
  have hj : judge (s.takeOff i).clock ((s.takeOff i).board b).state p = j := by simp [j]
  have hmark : j.setsMark = decide late := by rw [Bool.eq_iff_iff, setsMark_iff, decide_eq_true_iff]
  have hq : (s.takeOff i).advancedPayload p j approval = q := by
    simp [State.advancedPayload, Payload.judged, takeOff_times, q, hmark, State.after]
  have halike : LatchAlike s ((s.takeOff i).writeRecord n .decided b q) := by
    refine ⟨?_, ?_, ?_⟩ <;> simp [State.writeRecord]
  have hlatches : ((((s.takeOff i).writeRecord n .decided b q).offerOverdue j n b q).offer .advance n b q.key q.watchSet).latches
      = (offered.offer .advance n b p.key p.watchSet).latches :=
    ((halike.offerOverdue j n b (p := q) rfl rfl).offer .advance n b p.key p.watchSet).2.2
  have hreported : State.progress (State.takeSample { (s.takeOff i).writeRecord n .decided b q with
      latches := (offered.offer .advance n b p.key p.watchSet).latches } b (sampleOf (s.takeOff i).clock q)) b = u := by
    unfold State.progress State.takeSample
    simp only [modifyBoard_modifyBoard, u]
    rw [takeOff_eq]
    rfl
  refine exec_served rfl hr (hserve.trans ?_)
  unfold State.advanceRecord
  dsimp only
  rw [hj, hq, overdueThen_eq, hlatches, hreported, chargeStage_eq]

/-! ## RELEASE (R14, R31, R38, R39) -/

/-- A record of a board that is not SILENT retired whole. -/
theorem retire_of_not_silent (s : State) (n : Nat) (st : Stage) (b : Bd) (p : Payload) (parity : Bool)
    (hs : s.slot n = some (.record st b p parity)) (hb : (s.board b).state ≠ .silent) :
    let left := (s.list b).erase n
    let o := if left = [] then 0 else (s.board b).outstanding - 1
    s.retire n =
      State.modifyBoard
        { s with
          slots := mapRemove n s.slots
          index := s.index.filter fun e => e.2 != n
          lists := s.lists.set b.val left b.isLt
          free := s.free ++ [n]
          occupancy := s.occupancy - 1
          tableHighArmed := if s.occupancy - 1 + 256 < s.highMark then true else s.tableHighArmed } b
        fun x => { x with outstanding := o, stallExpiry := if o = 0 then none else x.stallExpiry } := by
  intro left o
  rw [retire_record_eq s n st b p parity hs, leaveList_eq _ b n false (.inr (by simpa using hb)), freeSlot_eq, armed_eq_ite]
  rfl

section Release

variable {t : State} {tag outcome : Byte} {key : Key} {n : Nat} {st : Stage} {b : Bd} {p : Payload} {parity : Bool}

theorem serveRelease_accepted (hh : t.halted = false) (ho : outcome.toNat ≤ 3) (hk : t.lookupKey key = some n)
    (hs : t.slot n = some (.record st b p parity)) (hp : readsClean p parity = true) (hkey : p.key = key)
    (hsound : t.removalSound b n = true) (hb : InService (t.board b).state) :
    serveRelease tag key outcome t = t.releaseRecord tag n b st p (decide (outcome = 3)) := by
  have hsilent : (t.board b).state ≠ .silent := by rcases hb with hb | hb | hb <;> rw [hb] <;> nofun
  simp [serveRelease, hh, Nat.not_lt.2 ho, hk, hs, hp, hkey, hsound, hsilent]

end Release

/-- Judging sets the mark of the current stage alone (R29). -/
theorem judged_reads (p : Payload) (st : Stage) (j : Judgement) :
    (p.judged st j).key = p.key ∧ (p.judged st j).watchSet = p.watchSet ∧ (p.judged st j).lodgeTime = p.lodgeTime
      ∧ (p.judged st j).lateAuth = (p.lateAuth || (decide (st = .lodged) && decide (j = .charged ∨ j = .excused)))
      ∧ (p.judged st j).lateSettle = (p.lateSettle || (decide (st = .decided) && decide (j = .charged ∨ j = .excused))) := by
  have hmark : j.setsMark = decide (j = .charged ∨ j = .excused) := by rw [Bool.eq_iff_iff, setsMark_iff, decide_eq_true_iff]
  cases st <;> simp [Payload.judged, hmark]

/-- The report of a RELEASE changes the board's record alone: nothing when CANCELLED, else sample, release count and progress. -/
theorem releaseReport_eq (s : State) (b : Bd) (st : Stage) (p : Payload) (cancelled : Bool) :
    s.releaseReport b st p cancelled = s.modifyBoard b fun x =>
      if cancelled = true then x
      else
        { x with
          latency := if st = .lodged then updatedLatency x.latency (sampleOf s.clock p) s.gain else x.latency
          releases := x.releases + 1
          lastProgress := some s.clock
          stallExpiry := if (x.state = .live ∨ x.state = .doubtful) ∧ 0 < x.outstanding then some (s.after s.stallLimit) else x.stallExpiry } := by
  cases cancelled with
  | true => simp [State.releaseReport, State.modifyBoard, State.board]
  | false =>
    unfold State.releaseReport State.stepReleases State.progress State.takeSample
    cases st <;> simp only [Bool.false_eq_true, if_false, modifyBoard_modifyBoard] <;> rfl

/-- Settles O13: the record's events, its retirement and its report, then the credit or the charge. -/
theorem releaseRetires : Obligations.ReleaseRetires := by
  intro s tag key outcome n st b p parity hr hh ho hk hs hb hp hkey hsound
  subst hkey
  intro i j late lateAuth lateSettle x left o stall sample credit offered u kind
  have hserve : serve i (s.takeOff i) = (s.takeOff i).releaseRecord tag n b st p (decide (outcome = 3)) :=
    serveRelease_accepted (by simpa using hh) ho (by simpa using hk) (by simpa using hs) hp rfl (by simpa using hsound) (by simpa using hb)
  have hj : judge (s.takeOff i).clock ((s.takeOff i).board b).state p = j := by simp [j]
  have hsilent : (s.board b).state ≠ .silent := by rcases hb with hb | hb | hb <;> rw [hb] <;> nofun
  obtain ⟨hkey, hwatch, hlodged, hauth, hsettle⟩ := judged_reads p st j
  have hcredit : earnsCredit ((s.takeOff i).board b).state (decide (outcome = 3)) (p.judged st j) = decide credit := by
    rw [earnsCredit, hauth, hsettle, (takeOff_reads s i).1]
    rw [Bool.eq_iff_iff, decide_eq_true_iff]
    simp [credit, lateAuth, lateSettle, late, x, and_assoc, imp_iff_not_or]
  have halike : LatchAlike s (s.takeOff i) := by
    refine ⟨?_, ?_, ?_⟩ <;> simp
  have hlatches : (((s.takeOff i).offerOverdue j n b (p.judged st j)).offer .release n b p.key p.watchSet).latches
      = (offered.offer .release n b p.key p.watchSet).latches :=
    ((halike.offerOverdue j n b hkey hwatch).offer .release n b p.key p.watchSet).2.2
  have hreported : State.releaseReport (State.retire { s.takeOff i with
      latches := (offered.offer .release n b p.key p.watchSet).latches } n) b st (p.judged st j) (decide (outcome = 3)) = u := by
    rw [retire_of_not_silent _ n st b p parity (by simpa [State.slot] using hs) (by simpa [State.board] using hsilent),
      releaseReport_eq, modifyBoard_modifyBoard, sampleOf, hauth, hlodged]
    unfold State.modifyBoard
    by_cases hcancel : outcome = 3
    · simp only [hcancel, decide_true, if_true, u]
      rw [takeOff_eq]
      rfl
    · simp only [hcancel, decide_false, Bool.false_eq_true, if_false, u]
      rw [takeOff_eq]
      rfl
  refine exec_served rfl hr (hserve.trans ?_)
  unfold State.releaseRecord
  dsimp only
  rw [hj, hkey, hwatch, overdueThen_eq, hlatches, hreported, chargeStage_eq, hcredit]
  simp only [decide_eq_true_eq]
  cases st <;> rfl

end Sys2Proof.Machine

/-! SUPPORT. The reports of LOOKUP and PEEK, and the structure failures of the key index and the custody lists. -/

namespace Sys2Proof.Machine

/-! ## The record report (R43, R166) -/

theorem recordEntry_damaged (n : Nat) (x : Slot) (held : Bool) (hx : x.isDamaged = true) :
    recordEntry n (some x) held = be 2 n ++ [if held = true then 7 else 3] ++ List.replicate 27 0 := by
  cases x with
  | record => cases hx
  | damaged b p parity => cases held <;> rfl
  | unattributed => cases held <;> rfl

/-- The flags byte of a record's entry, its stage in the two lowest bits. -/
theorem bitsByte_flags (st : Stage) (a b c d e f : Bool) :
    bitsByte [decide (st = .lodged), decide (st = .decided), a, b, c, d, e, f]
      = BitVec.ofNat 8 ((if st = .lodged then 1 else 2) + a.toNat * 2 ^ 2 + b.toNat * 2 ^ 3 + c.toNat * 2 ^ 4
          + d.toNat * 2 ^ 5 + e.toNat * 2 ^ 6 + f.toNat * 2 ^ 7) := by
  unfold bitsByte
  congr 1
  cases st <;> simp [ofBits] <;> omega

theorem recordReport_record {t : State} {n : Nat} {st : Stage} {b : Bd} {p : Payload} {parity : Bool}
    (hs : t.slot n = some (.record st b p parity)) :
    t.recordReport n = BitVec.ofNat 8 b.val :: recordEntry n (t.slot n) (decide ((t.board b).state = .silent)) := by
  simp [State.recordReport, hs, linkOf, optBoardByte, State.heldBy]

theorem recordReport_damaged {t : State} {n : Nat} {b : Bd} {p : Payload} {parity : Bool}
    (hs : t.slot n = some (.damaged b p parity)) :
    t.recordReport n
      = BitVec.ofNat 8 b.val :: be 2 n ++ [if (t.board b).state = .silent then 7 else 3] ++ List.replicate 27 0 := by
  simp [State.recordReport, hs, linkOf, optBoardByte, State.heldBy, recordEntry_damaged n (.damaged b p parity) _ rfl]

theorem recordReport_unattributed {t : State} {n : Nat} (hs : t.slot n = some .unattributed) :
    t.recordReport n = 255 :: be 2 n ++ [3] ++ List.replicate 27 0 := by
  simp [State.recordReport, hs, linkOf, optBoardByte, State.heldBy, recordEntry_damaged n .unattributed _ rfl]

/-! ## LOOKUP's and PEEK's cases (R41, R42) -/

section Lookup

variable {t : State} {tag : Byte} {key : Key} {n : Nat} {st : Stage} {b : Bd} {p : Payload} {parity : Bool} {w : BitVec 16}

theorem serveLookup_notFound (hk : t.lookupKey key = none) : serveLookup tag key t = t.answer 0x04 tag .notFound [] := by
  simp [serveLookup, hk]

theorem serveLookup_found (hk : t.lookupKey key = some n) (hs : t.slot n = some (.record st b p parity))
    (hp : readsClean p parity = true) (hkey : p.key = key) :
    serveLookup tag key t = t.answer 0x04 tag .found (t.recordReport n) := by
  simp [serveLookup, hk, hs, hp, hkey]

theorem serveLookup_damaged (hk : t.lookupKey key = some n) (hs : t.slot n = some (.record st b p parity))
    (hp : readsClean p parity = false) :
    serveLookup tag key t = (t.damageRecord n b p parity).answer 0x04 tag .notFound [] := by
  simp [serveLookup, hk, hs, hp]

theorem servePeek_outOfRange (hw : 8192 ≤ w.toNat) : servePeek tag w t = t.answer 0x05 tag .outOfRange [0] :=
  if_pos hw

theorem servePeek_inRange (hw : w.toNat < 8192) :
    servePeek tag w t = (t.peekRead w.toNat).answer 0x05 tag .slot ((t.peekRead w.toNat).recordReport w.toNat) :=
  if_neg (Nat.not_le.2 hw)

theorem peekRead_of_damaged {x : Slot} (hs : t.slot n = some x) (hx : x.isDamaged = true) : t.peekRead n = t := by
  cases x with
  | record => cases hx
  | damaged b p parity => simp [State.peekRead, hs]
  | unattributed => simp [State.peekRead, hs]

theorem peekRead_of_clean (hs : t.slot n = some (.record st b p parity)) (hp : readsClean p parity = true) :
    t.peekRead n = t := by
  simp [State.peekRead, hs, hp]

theorem peekRead_of_unclean (hs : t.slot n = some (.record st b p parity)) (hp : readsClean p parity = false) :
    t.peekRead n = t.damageRecord n b p parity := by
  simp [State.peekRead, hs, hp]

/-- A PEEK within the table answers the report the slot gives once it is read. -/
theorem exec_peek_of_read {s : State} {report : List Byte} (hr : s.resetHeld = false) (hw : w.toNat < 8192)
    (hread : (s.takeOff (.peek tag w)).peekRead w.toNat = t) (hreport : t.recordReport w.toNat = report) :
    exec (.peek tag w) s = .next (t.answer 0x05 tag .slot report).driveLines := by
  have hserve : serve (.peek tag w) (s.takeOff (.peek tag w)) = t.answer 0x05 tag .slot report := by
    rw [← hreport, ← hread]
    exact servePeek_inRange hw
  exact exec_served rfl hr hserve

end Lookup

/-- What a slot and a board hold after a record was found damaged. -/
theorem damageRecord_reads (s : State) (n : Nat) (b : Bd) (p : Payload) (parity : Bool) :
    (s.damageRecord n b p parity).slot n = some (.damaged b p parity)
      ∧ ((s.damageRecord n b p parity).board b).state = (s.board b).state := by
  constructor
  · simp [mapFind_mapPut, State.damageRecord, State.slot, State.setSlot, State.dropIndexOf, State.modifyBoard, State.latchDamage, State.modifyLatches]
  · simp [State.damageRecord, State.board, State.setSlot, State.dropIndexOf, State.modifyBoard, State.latchDamage, State.modifyLatches]

/-- Settles O15: the report's bytes by the slot's content, then LOOKUP's and PEEK's cases. -/
theorem lookupAndPeekReport : Obligations.LookupAndPeekReport := by
  refine ⟨?entry, recordEntry_damaged,
    fun s tag key hr => ⟨?notFound, ?lookup, fun w => ⟨?range, ?free, ?damaged, ?unattributed, ?record⟩⟩⟩
  case entry =>
    intro n st b p parity held bit stage excused overdue
    have hstage : (if st = .lodged then 1 else 2) = stage := by
      cases st <;> rfl
    have hexcused : (p.overdue.map (·.excused)).getD false = excused := by
      cases h : p.overdue <;> simp [excused, h]
    have hoverdue : (p.overdue.map (·.time)).getD 0 = overdue := by
      cases h : p.overdue <;> simp [overdue, h]
    have hclass : p.watchSet.toNat + 16 * excused.toNat + 32 * p.cls.val = p.watchSet.toNat + bit excused 4 + p.cls.val * 2 ^ 5 := by
      simp only [bit]
      omega
    simp only [recordEntry]
    rw [bitsByte_flags, hstage, hexcused, optTime, hoverdue, hclass]
    simp [keyBytes, bit]
  case notFound =>
    intro hk
    exact exec_answered rfl hr (serveLookup_notFound (by simpa using hk))
  case lookup =>
    intro n st b p parity hs
    have hs' : (s.takeOff (.lookup tag key)).slot n = some (.record st b p parity) := by simpa using hs
    refine ⟨fun hk hp hkey => ?_, fun hk hp => ?_⟩
    · have h := exec_answered (i := .lookup tag key) rfl hr (serveLookup_found (by simpa using hk) hs' hp hkey)
      rw [recordReport_record hs'] at h
      simpa using h
    · exact exec_served rfl hr (serveLookup_damaged (by simpa using hk) hs' hp)
  case range => exact fun hw => exec_answered rfl hr (servePeek_outOfRange hw)
  case free => exact fun hw hs => exec_peek_of_free s tag w hr hw hs
  case damaged =>
    intro b p parity hw hs
    have hs' : (s.takeOff (.peek tag w)).slot w.toNat = some (.damaged b p parity) := by simpa using hs
    have hreport := recordReport_damaged hs'
    rw [(takeOff_reads s _).1] at hreport
    exact exec_peek_of_read hr hw (peekRead_of_damaged hs' rfl) hreport
  case unattributed =>
    intro hw hs
    have hs' : (s.takeOff (.peek tag w)).slot w.toNat = some .unattributed := by simpa using hs
    exact exec_peek_of_read hr hw (peekRead_of_damaged hs' rfl) (recordReport_unattributed hs')
  case record =>
    intro st b p parity hw hs
    have hs' : (s.takeOff (.peek tag w)).slot w.toNat = some (.record st b p parity) := by simpa using hs
    refine ⟨fun hp => ?_, fun hp => ?_⟩
    · have hreport := recordReport_record hs'
      simp only [takeOff_reads] at hreport
      exact exec_peek_of_read hr hw (peekRead_of_clean hs' hp) hreport
    · obtain ⟨hslot, hstate⟩ := damageRecord_reads (s.takeOff (.peek tag w)) w.toNat b p parity
      have hreport := recordReport_damaged hslot
      simp only [hstate, takeOff_reads] at hreport
      exact exec_peek_of_read hr hw (peekRead_of_unclean hs' hp) hreport

end Sys2Proof.Machine

/-! SUPPORT. The structure failures of the key index and of the custody lists (R152, R153). -/

namespace Sys2Proof.Machine

/-- HALTED is entered once: the sweep stops, and a latch already set stands. -/
theorem enterHalted_eq (s : State) (w : Structure) :
    s.enterHalted w =
      { s with
        halted := true, sweepRunning := false
        latches := { s.latches with halted := some (s.latches.halted.getD ⟨s.clock, w⟩) } } := rfl

theorem takeOff_enterHalted (s : State) (i : Instr) (w : Structure) :
    (s.takeOff i).enterHalted w =
      { s.takeOff i with
        halted := true, sweepRunning := false
        latches := { s.latches with halted := some (s.latches.halted.getD ⟨s.clock, w⟩) } } := by
  rw [enterHalted_eq]
  simp

/-! ## Index entries that name no record of the key -/

section Index

variable {t : State} {tag outcome : Byte} {key : Key} {approval : BitVec 32} {n : Nat} {st : Stage} {b : Bd} {p : Payload}
  {parity : Bool}

theorem serveAdvance_noRecord (hh : t.halted = false) (hk : t.lookupKey key = some n) (hs : t.holdsRecord n = false) :
    serveAdvance tag key approval t = (t.enterHalted .keyIndex).answer 0x02 tag .halted [] := by
  cases hslot : t.slot n with
  | none => simp [serveAdvance, hh, hk, hslot]
  | some x =>
    cases x with
    | record => simp [State.holdsRecord, hslot] at hs
    | damaged => simp [serveAdvance, hh, hk, hslot]
    | unattributed => simp [serveAdvance, hh, hk, hslot]

theorem serveAdvance_otherKey (hh : t.halted = false) (hk : t.lookupKey key = some n)
    (hs : t.slot n = some (.record .lodged b p parity)) (hb : (t.board b).state ≠ .silent) (hp : readsClean p parity = true)
    (hkey : p.key ≠ key) : serveAdvance tag key approval t = (t.enterHalted .keyIndex).answer 0x02 tag .halted [] := by
  simp [serveAdvance, hh, hk, hs, hb, hp, hkey]

theorem serveRelease_noRecord (hh : t.halted = false) (ho : outcome.toNat ≤ 3) (hk : t.lookupKey key = some n)
    (hs : t.holdsRecord n = false) : serveRelease tag key outcome t = (t.enterHalted .keyIndex).answer 0x03 tag .halted [] := by
  cases hslot : t.slot n with
  | none => simp [serveRelease, hh, Nat.not_lt.2 ho, hk, hslot]
  | some x =>
    cases x with
    | record => simp [State.holdsRecord, hslot] at hs
    | damaged => simp [serveRelease, hh, Nat.not_lt.2 ho, hk, hslot]
    | unattributed => simp [serveRelease, hh, Nat.not_lt.2 ho, hk, hslot]

theorem serveRelease_otherKey (hh : t.halted = false) (ho : outcome.toNat ≤ 3) (hk : t.lookupKey key = some n)
    (hs : t.slot n = some (.record st b p parity)) (hp : readsClean p parity = true) (hkey : p.key ≠ key) :
    serveRelease tag key outcome t = (t.enterHalted .keyIndex).answer 0x03 tag .halted [] := by
  simp [serveRelease, hh, Nat.not_lt.2 ho, hk, hs, hp, hkey]

theorem serveRelease_unsound (hh : t.halted = false) (ho : outcome.toNat ≤ 3) (hk : t.lookupKey key = some n)
    (hs : t.slot n = some (.record st b p parity)) (hp : readsClean p parity = true) (hkey : p.key = key)
    (hsound : t.removalSound b n = false) :
    serveRelease tag key outcome t = (t.enterHalted (.custodyList b)).answer 0x03 tag .halted [] := by
  simp [serveRelease, hh, Nat.not_lt.2 ho, hk, hs, hp, hkey, hsound]

/-- The failures a LOOKUP can find: no record in the slot, or a clean record of another key. -/
theorem serveLookup_noRecord (hk : t.lookupKey key = some n) (hs : t.holdsRecord n = false) :
    serveLookup tag key t = t.lookupFailure tag := by
  cases hslot : t.slot n with
  | none => simp [serveLookup, hk, hslot]
  | some x =>
    cases x with
    | record => simp [State.holdsRecord, hslot] at hs
    | damaged => simp [serveLookup, hk, hslot]
    | unattributed => simp [serveLookup, hk, hslot]

theorem serveLookup_otherKey (hk : t.lookupKey key = some n) (hs : t.slot n = some (.record st b p parity))
    (hp : readsClean p parity = true) (hkey : p.key ≠ key) : serveLookup tag key t = t.lookupFailure tag := by
  simp [serveLookup, hk, hs, hp, hkey]

end Index

/-! ## Removals whose walk fails -/

/-- A walk to n passes every slot that stands before n. -/
theorem mem_reachedTo_of_mem_takeWhile {n k : Nat} {l : List Nat} (h : k ∈ l.takeWhile fun k => decide (k ≠ n)) :
    k ∈ reachedTo n l := by
  induction l with
  | nil => cases h
  | cons m l ih =>
    by_cases hm : m = n
    · simp [hm] at h
    · rw [List.takeWhile_cons_of_pos (by simpa using hm), List.mem_cons] at h
      simp only [reachedTo, if_neg hm, List.mem_cons]
      exact h.imp_right ih

theorem removalSound_eq_false {s : State} {b : Bd} {n : Nat}
    (h : n ∉ s.list b ∨ (∃ k ∈ (s.list b).takeWhile (fun k => decide (k ≠ n)), s.linkedTo b k = false)
      ∨ (s.list b).erase n = [] ∧ (s.list b).length ≠ (s.board b).outstanding) : s.removalSound b n = false := by
  rw [State.removalSound]
  rcases h with habsent | ⟨k, hk, hlink⟩ | ⟨hempty, hcount⟩
  · have hcontains : (s.list b).contains n = false := by simpa using habsent
    rw [hcontains, Bool.false_and, Bool.false_and]
  · have hwalk : (reachedTo n (s.list b)).all (s.linkedTo b) = false :=
      List.all_eq_false.2 ⟨k, mem_reachedTo_of_mem_takeWhile hk, by simp [hlink]⟩
    simp [hwalk]
  · simp [hempty, State.countAgrees, hcount]

/-! ## The statement -/

theorem takeOff_holdsRecord (s : State) (i : Instr) (n : Nat) : (s.takeOff i).holdsRecord n = s.holdsRecord n := by
  rw [takeOff_eq]
  rfl

/-- Settles O17: each failure is found without the request's frame as with it, and leaves the state of `enterHalted`. -/
theorem indexFailureHalts : Obligations.IndexFailureHalts := by
  unfold Obligations.IndexFailureHalts
  intro stopped halt
  have hhalt {i : Instr} {s : State} {w : Structure} {code tag : Byte} (hi : (requestParts i).isSome = true) (hr : s.resetHeld = false)
      (h : serve i (s.takeOff i) = ((s.takeOff i).enterHalted w).answer code tag .halted []) : exec i s = .next (halt i s w code tag) := by
    rw [takeOff_enterHalted] at h
    exact exec_served hi hr h
  have hlookup {s : State} {tag : Byte} {key : Key} (hr : s.resetHeld = false)
      (h : serveLookup tag key (s.takeOff (.lookup tag key)) = (s.takeOff (.lookup tag key)).lookupFailure tag) :
      exec (.lookup tag key) s = .next ((stopped (.lookup tag key) s .keyIndex).answer 0x04 tag (if s.halted then .notFound else .halted) []).driveLines := by
    have hhalted : (s.takeOff (.lookup tag key)).halted = s.halted := by simp
    rw [State.lookupFailure, takeOff_enterHalted, hhalted] at h
    exact exec_served (i := .lookup tag key) rfl hr h
  refine ⟨?entry, ?key, ?lookup⟩
  case entry =>
    intro s tag outcome key approval n hr hh ho hk hfail
    have hhalted : ∀ i, (s.takeOff i).halted = false := fun i => by simpa using hh
    have hfound : ∀ i, (s.takeOff i).lookupKey key = some n := fun i => by simpa using hk
    rcases hfail with hnone | ⟨b, p, parity, hs, hb, hp, hkey⟩
    · have hheld : ∀ i, (s.takeOff i).holdsRecord n = false := fun i => by simpa [takeOff_holdsRecord] using hnone
      refine ⟨hhalt rfl hr (serveAdvance_noRecord (hhalted _) (hfound _) (hheld _)),
        hhalt rfl hr (serveRelease_noRecord (hhalted _) ho (hfound _) (hheld _)), ?_⟩
      have h := hlookup hr (serveLookup_noRecord (tag := tag) (hfound _) (hheld _))
      rwa [hh] at h
    · have hslot : ∀ i, (s.takeOff i).slot n = some (.record .lodged b p parity) := fun i => by simpa using hs
      refine ⟨hhalt rfl hr (serveAdvance_otherKey (hhalted _) (hfound _) (hslot _) (by simpa using hb) hp hkey),
        hhalt rfl hr (serveRelease_otherKey (hhalted _) ho (hfound _) (hslot _) hp hkey), ?_⟩
      have h := hlookup hr (serveLookup_otherKey (tag := tag) (hfound _) (hslot _) hp hkey)
      rwa [hh] at h
  case key =>
    intro s tag outcome key n st b p parity hr hh ho hk hs hp
    refine ⟨fun hkey => ⟨?_, ?_⟩, fun hkey hwalk => ?_⟩
    · exact hhalt rfl hr (serveRelease_otherKey (by simpa using hh) ho (by simpa using hk) (by simpa using hs) hp hkey)
    · have h := hlookup (tag := tag) hr (serveLookup_otherKey (by simpa using hk) (by simpa using hs) hp hkey)
      rwa [hh] at h
    · have hsound : s.removalSound b n = false := removalSound_eq_false hwalk
      exact hhalt rfl hr
        (serveRelease_unsound (by simpa using hh) ho (by simpa using hk) (by simpa using hs) hp hkey (by simpa using hsound))
  case lookup =>
    intro s tag key n hr hh hk hfail
    have h : serveLookup tag key (s.takeOff (.lookup tag key)) = (s.takeOff (.lookup tag key)).lookupFailure tag := by
      rcases hfail with hnone | ⟨st, b, p, parity, hs, hp, hkey⟩
      · exact serveLookup_noRecord (by simpa using hk) (by simpa [takeOff_holdsRecord] using hnone)
      · exact serveLookup_otherKey (by simpa using hk) (by simpa using hs) hp hkey
    have hexec := hlookup hr h
    rwa [hh] at hexec

end Sys2Proof.Machine

/-! SUPPORT. The requests of one board: ENROL, REINSTATE, RETIRE, ABSOLVE and REPORT, and the refusals of the board requests. -/

namespace Sys2Proof.Machine

/-! ## Refusals (R78, R84, R85, R88, R111, R125) -/

section Refused

variable {t : State} {tag board : Byte} {count : BitVec 16} {b : Bd}

theorem serveEnrol_refused (hb : board.toNat = b.val) (hst : (t.board b).state ≠ .absent) :
    serveEnrol tag board t = t.refuseBoardState 0x06 tag b := by
  simp [serveEnrol, (toBd_some board b).2 hb, hst]

theorem serveReinstate_refused (hb : board.toNat = b.val) (hst : (t.board b).state ≠ .drained) :
    serveReinstate tag board t = t.refuseBoardState 0x07 tag b := by
  simp [serveReinstate, (toBd_some board b).2 hb, hst]

theorem serveRetire_refused (hb : board.toNat = b.val)
    (hst : (t.board b).state = .absent ∨ (t.board b).state = .doubtful ∨ (t.board b).state = .silent ∨ 0 < (t.board b).outstanding) :
    serveRetire tag board t = t.refuseBoardState 0x08 tag b := by
  simp only [serveRetire, (toBd_some board b).2 hb]
  by_cases h : (t.board b).state = .absent ∨ (t.board b).state = .doubtful ∨ (t.board b).state = .silent
  · rw [if_pos h]
  · rw [if_neg h, if_pos (by tauto)]

theorem serveDeclare_refused (hb : board.toNat = b.val) (hst : ¬ InService (t.board b).state) :
    serveDeclare tag board t = t.refuseBoardState 0x09 tag b := by
  simp [serveDeclare, (toBd_some board b).2 hb, isActive_iff, hst]

theorem serveDeclare_downLimit (hb : board.toNat = b.val) (hst : InService (t.board b).state) (hd : t.maxDown ≤ t.down) :
    serveDeclare tag board t = t.answer 0x09 tag .downLimit (be 1 t.down ++ be 1 t.maxDown) := by
  simp [serveDeclare, (toBd_some board b).2 hb, (isActive_iff _).2 hst, hd]

theorem serveAbsolve_refused (hb : board.toNat = b.val) (hst : ¬ Chargeable (t.board b).state) :
    serveAbsolve tag board t = t.refuseBoardState 0x0A tag b := by
  simp only [serveAbsolve, (toBd_some board b).2 hb]
  exact if_pos (not_or.1 hst)

theorem serveReport_refused (hb : board.toNat = b.val) (hst : ¬ InService (t.board b).state) :
    serveReport tag board count t = t.refuseBoardState 0x0D tag b := by
  simp [serveReport, (toBd_some board b).2 hb, isActive_iff, hst]

end Refused

/-- Settles O24: each check fails in the state without the request's frame just as it fails in the state before. -/
theorem boardRequestsRefused : Obligations.BoardRequestsRefused := by
  intro s tag board count hr
  have refused {i : Instr} {code : Byte} {b : Bd} (hi : (requestParts i).isSome = true)
      (h : serve i (s.takeOff i) = (s.takeOff i).refuseBoardState code tag b) :
      exec i s = .next (answered i s code tag .boardState ((s.board b).state.byte :: be 2 (s.board b).outstanding)) := by
    rw [State.refuseBoardState, (takeOff_reads s i).1] at h
    exact exec_answered hi hr h
  refine ⟨fun hb => ?range, fun b hb => ?checked⟩
  case range =>
    have hnone := (toBd_none board).2 hb
    refine ⟨exec_answered rfl hr ?_, exec_answered rfl hr ?_, exec_answered rfl hr ?_, exec_answered rfl hr ?_, exec_answered rfl hr ?_,
      exec_answered rfl hr ?_, exec_answered rfl hr ?_⟩
    all_goals simp [serve, serveEnrol, serveReinstate, serveRetire, serveDeclare, serveAbsolve, serveReport, serveBoard, hnone,
      State.outOfRange]
  intro x why
  refine ⟨fun hst => ?enrol, fun hst => ?reinstate, fun hst => ?retire, fun hst => ?inactive, fun hst hd => ?downLimit,
    fun hst => ?absolve⟩
  case enrol => exact refused rfl (serveEnrol_refused hb (by simpa using hst))
  case reinstate => exact refused rfl (serveReinstate_refused hb (by simpa using hst))
  case retire => exact refused rfl (serveRetire_refused hb (by simpa using hst))
  case inactive =>
    exact ⟨refused rfl (serveDeclare_refused hb (by simpa using hst)), refused rfl (serveReport_refused hb (by simpa using hst))⟩
  case downLimit =>
    have hmax : (s.takeOff (.declare tag board)).maxDown = s.maxDown := by rw [takeOff_eq]; rfl
    have hdown : (s.takeOff (.declare tag board)).down = s.down := by simp
    have h := exec_answered (i := .declare tag board) rfl hr
      (serveDeclare_downLimit (tag := tag) hb (by simpa using hst) (by rw [hmax, hdown]; exact hd))
    rw [hmax, hdown] at h
    simpa [be] using h
  case absolve => exact refused rfl (serveAbsolve_refused hb (by simpa using hst))

/-! ## Entering WARMING (R79) -/

theorem enterWarming_of_absent {s : State} {b : Bd} (hb : (s.board b).state = .absent) :
    s.enterWarming b =
      State.reevaluateCommon { s with
        boards := s.boards.set b.val ((s.board b).warmed s.seed (s.after s.graceLength)) b.isLt
        lines := s.lines.set b.val Line.reset b.isLt
        active := s.active + 1 } := by
  unfold State.enterWarming
  rw [hb, reportState_of_newCounts _ _ _ (by decide)]
  rfl

theorem enterWarming_of_drained {s : State} {b : Bd} (hb : (s.board b).state = .drained) :
    s.enterWarming b =
      State.reevaluateCommon { s with
        boards := s.boards.set b.val ((s.board b).warmed s.seed (s.after s.graceLength)) b.isLt
        lines := s.lines.set b.val Line.reset b.isLt
        active := s.active + 1
        down := s.down - 1 } := by
  unfold State.enterWarming
  rw [hb, reportState_of_newCounts _ _ _ (by decide)]
  rfl

theorem afterExit_eq (s t : State) :
    s.afterExit t = if s.commonCause = true ∧ t.commonCause = false then t.reconsider else t := by
  simp [State.afterExit]

/-- What a reconsideration leaves of a board that is not pending. -/
theorem Reconsidered.board_of_none {s t : State} (h : Reconsidered s t) {b : Bd} (hb : s.cause b = none) : t.board b = s.board b :=
  (h.2 b hb).1

theorem enterWarming_cause (s : State) (b c : Bd) : (s.enterWarming b).cause c = s.cause c := by
  simp [State.enterWarming]

/-- The answer of a board that entered WARMING and was not touched since (R165). -/
theorem answerWarming_eq {s t w : State} {b : Bd} (code tag : Byte) (ht : t = s.enterWarming b) (hw : Reconsidered t w)
    (hb : s.cause b = none) : w.answerWarming code tag b = w.answer code tag .accepted (1 :: be 4 (s.after s.graceLength).toNat) := by
  have hboard : w.board b = (s.board b).warmed s.seed (s.after s.graceLength) := by
    rw [hw.board_of_none (by rw [ht, enterWarming_cause, hb]), ht, (enterWarming_reads s b b).1, if_pos rfl]
  simp [State.answerWarming, hboard, Board.warmed, optTime, BoardState.byte]

/-- Settles O19: the entry to WARMING is the statement's state, and the reconsideration leaves the board, which is not pending. -/
theorem enrolAndReinstateEnterWarming : Obligations.EnrolAndReinstateEnterWarming := by
  constructor
  · intro s tag board b hr hb hst hcause i h graceEnd u v w
    have hv : (s.takeOff i).enterWarming b = v := by
      rw [enterWarming_of_absent (by simpa using hst)]
      simp only [v, u]
      rw [takeOff_eq]
      rfl
    have hw : (s.takeOff i).afterExit v = w := by
      rw [afterExit_eq]
      simp [w]
    have hserve : serve i (s.takeOff i) = ((s.takeOff i).afterExit v).answerWarming 0x06 tag b := by
      rw [← hv]
      simp [serve, i, serveEnrol, (toBd_some board b).2 hb, hst]
    refine exec_served rfl hr (hserve.trans ?_)
    rw [answerWarming_eq _ _ hv.symm (afterExit_reconsidered _ v) (by simpa using hcause), hw]
    simp only [takeOff_times]
    rfl
  · intro s tag board b hr hb hst hcause i h graceEnd u
    have hv : (s.takeOff i).enterWarming b = u.reevaluateCommon := by
      rw [enterWarming_of_drained (by simpa using hst)]
      simp only [u]
      rw [takeOff_eq]
      rfl
    have hserve : serve i (s.takeOff i) = u.reevaluateCommon.reconsider.answerWarming 0x07 tag b := by
      rw [← hv]
      simp [serve, i, serveReinstate, (toBd_some board b).2 hb, hst]
    refine exec_served rfl hr (hserve.trans ?_)
    rw [answerWarming_eq _ _ hv.symm (reconsider_reconsidered _) (by simpa using hcause)]
    simp only [takeOff_times]
    rfl

end Sys2Proof.Machine

/-! SUPPORT. RETIRE, ABSOLVE and REPORT of one board (R85, R86, R88, R111 to R113). -/

namespace Sys2Proof.Machine

/-! ## RETIRE (R85, R86) -/

theorem leaveService_of_drained {s : State} {b : Bd} (hb : (s.board b).state = .drained) :
    s.leaveService b =
      { s with
        boards := s.boards.set b.val (s.board b).retired b.isLt
        lines := s.lines.set b.val { s.line b with intervalArmed := false } b.isLt
        down := s.down - 1 } := by
  unfold State.leaveService
  rw [hb, reportState_of_sameCounts _ _ _ (by decide)]
  rfl

theorem leaveService_of_active {s : State} {b : Bd} (hb : (s.board b).state = .warming ∨ (s.board b).state = .live) :
    s.leaveService b =
      State.reevaluateCommon { s with
        boards := s.boards.set b.val (s.board b).retired b.isLt
        lines := s.lines.set b.val { s.line b with intervalArmed := false } b.isLt
        active := s.active - 1 } := by
  unfold State.leaveService
  rcases hb with hb | hb <;> rw [hb, reportState_of_newCounts _ _ _ (by decide)] <;> rfl

theorem serveRetire_accepted {t u : State} {tag board : Byte} {b : Bd} (hb : board.toNat = b.val)
    (hst : (t.board b).state = .warming ∨ (t.board b).state = .live ∨ (t.board b).state = .drained) (ho : (t.board b).outstanding = 0)
    (hu : (if (t.board b).state = .drained then (t.leaveService b).reconsider else t.afterExit (t.leaveService b)) = u) :
    serveRetire tag board t = u.answer 0x08 tag .accepted ((u.board b).state.byte :: be 2 (u.board b).score) := by
  have hstate : ¬ ((t.board b).state = .absent ∨ (t.board b).state = .doubtful ∨ (t.board b).state = .silent) := by
    rcases hst with h | h | h <;> rw [h] <;> simp
  simp only [serveRetire, (toBd_some board b).2 hb, if_neg hstate, ho, lt_irrefl, if_false, hu]

theorem leaveService_cause (s : State) (b c : Bd) : (s.leaveService b).cause c = s.cause c := by
  simp [State.leaveService]

/-- Settles O20: the leaving is the statement's state, and the reconsideration leaves the board, which is not pending. -/
theorem retireLeavesService : Obligations.RetireLeavesService := by
  intro s tag board b hr hb hst ho hcause i drained u v w
  have hv : (s.takeOff i).leaveService b = v := by
    rcases hst with h | h | h
    · have hnot : ¬ drained := by simp [drained, h]
      rw [leaveService_of_active (by simp [h])]
      simp only [v, u, if_neg hnot]
      rw [takeOff_eq]
      rfl
    · have hnot : ¬ drained := by simp [drained, h]
      rw [leaveService_of_active (by simp [h])]
      simp only [v, u, if_neg hnot]
      rw [takeOff_eq]
      rfl
    · have hyes : drained := h
      rw [leaveService_of_drained (by simpa using h)]
      simp only [v, u, if_pos hyes]
      rw [takeOff_eq]
      rfl
  have hw : (if ((s.takeOff i).board b).state = .drained then v.reconsider else (s.takeOff i).afterExit v) = w := by
    have hcommon : (s.takeOff i).commonCause = s.commonCause := by simp
    simp only [w, (takeOff_reads s i).1, afterExit_eq, hcommon]
    by_cases h : drained
    · rw [if_pos h, if_pos (.inl h)]
    · rw [if_neg h]
      simp only [h, false_or]
  have hreconsidered : Reconsidered v w := by
    rw [← hw]
    split
    · exact reconsider_reconsidered v
    · exact afterExit_reconsidered _ v
  have hboard : w.board b = (s.board b).retired := by
    rw [hreconsidered.board_of_none (by rw [← hv, leaveService_cause]; simpa using hcause), ← hv, (leaveService_reads _ b b).1, if_pos rfl,
      (takeOff_reads s i).1]
  have hserve := serveRetire_accepted (t := s.takeOff i) (tag := tag) hb (by simpa using hst) (by simpa using ho) (hv ▸ hw)
  rw [hboard] at hserve
  exact exec_served rfl hr hserve

/-! ## ABSOLVE (R88) -/

theorem absolveBoard_eq (s : State) (b : Bd) :
    s.absolveBoard b =
      State.reportState { s with
        boards := s.boards.set b.val { s.board b with state := .live, score := 0, pending := false } b.isLt
        withheld := s.withheld.set b.val none b.isLt } (s.board b).state .live := by
  have hstate : (((s.modifyBoard b fun x => { x with score := 0 }).clearPending b).board b).state = (s.board b).state := by
    simp [State.clearPending]
  unfold State.absolveBoard State.setBoardState
  rw [hstate]
  congr 1
  show State.setCause (((s.modifyBoard b fun x => { x with score := 0 }).modifyBoard b fun x => { x with pending := false }).modifyBoard b
    fun x => { x with state := .live }) b none = _
  rw [modifyBoard_modifyBoard, modifyBoard_modifyBoard]
  rfl

theorem absolveBoard_of_live {s : State} {b : Bd} (hb : (s.board b).state = .live) :
    s.absolveBoard b =
      { s with
        boards := s.boards.set b.val { s.board b with state := .live, score := 0, pending := false } b.isLt
        withheld := s.withheld.set b.val none b.isLt } := by
  rw [absolveBoard_eq, hb, reportState_of_sameCounts _ _ _ (by decide)]
  rfl

theorem absolveBoard_of_doubtful {s : State} {b : Bd} (hb : (s.board b).state = .doubtful) :
    s.absolveBoard b =
      State.reevaluateCommon { s with
        boards := s.boards.set b.val { s.board b with state := .live, score := 0, pending := false } b.isLt
        withheld := s.withheld.set b.val none b.isLt
        doubtful := s.doubtful - 1 } := by
  rw [absolveBoard_eq, hb, reportState_of_newCounts _ _ _ (by decide)]
  rfl

theorem serveAbsolve_accepted {t u : State} {tag board : Byte} {b : Bd} (hb : board.toNat = b.val) (hst : Chargeable (t.board b).state)
    (hu : t.afterExit (t.absolveBoard b) = u) :
    serveAbsolve tag board t = u.answer 0x0A tag .accepted ((u.board b).state.byte :: be 2 (u.board b).score) := by
  have hstate : ¬ ((t.board b).state ≠ .live ∧ (t.board b).state ≠ .doubtful) := by
    rcases hst with h | h <;> simp [h]
  simp only [serveAbsolve, (toBd_some board b).2 hb, if_neg hstate, hu]

/-- Settles O21: the absolved board is out of the pending set, so that the reconsideration of an exit leaves it. -/
theorem absolveClearsScore : Obligations.AbsolveClearsScore := by
  intro s tag board b hr hb hst i u v w
  have hv : (s.takeOff i).absolveBoard b = v := by
    rcases hst with h | h
    · have hnot : (s.board b).state ≠ .doubtful := by simp [h]
      rw [absolveBoard_of_live (by simpa using h)]
      simp only [v, u, if_neg hnot]
      rw [takeOff_eq]
      rfl
    · rw [absolveBoard_of_doubtful (by simpa using h)]
      simp only [v, u, if_pos h]
      rw [takeOff_eq]
      rfl
  have hw : (s.takeOff i).afterExit ((s.takeOff i).absolveBoard b) = w := by
    rw [hv, afterExit_eq]
    simp [w]
  have hcause : ((s.takeOff i).absolveBoard b).cause b = none := by
    rw [absolveBoard_eq, (reportState_reads _ _ _).2.2.1]
    simp [State.cause]
  have hboard : w.board b = { s.board b with score := 0, pending := false, state := .live } := by
    rw [← hw, (afterExit_reconsidered _ _).board_of_none hcause, (absolveBoard_reads _ b b).1, if_pos rfl, (takeOff_reads s i).1]
  have hserve := serveAbsolve_accepted (t := s.takeOff i) (tag := tag) hb (by simpa using hst) hw
  rw [hboard] at hserve
  exact exec_served rfl hr (hserve.trans (by simp [BoardState.byte, be]))

/-! ## REPORT (R111 to R113) -/

theorem serveReport_active {t : State} {tag board : Byte} {count : BitVec 16} {b : Bd} (hb : board.toNat = b.val)
    (hst : InService (t.board b).state) :
    ((t.board b).baseline = none → serveReport tag board count t = t.takeBaseline tag b count)
      ∧ ∀ base, (t.board b).baseline = some base → serveReport tag board count t = t.crossCheck tag b count base := by
  constructor
  · intro h
    simp [serveReport, (toBd_some board b).2 hb, (isActive_iff _).2 hst, h]
  · intro base h
    simp [serveReport, (toBd_some board b).2 hb, (isActive_iff _).2 hst, h]

/-- The discrepancy by arithmetic: the difference modulo 2^16, read as signed. -/
theorem discrepancy_eq (count releases base : BitVec 16) :
    let raw : Nat := (count.toNat + 2 ^ 16 - releases.toNat + 2 ^ 16 - base.toNat) % 2 ^ 16
    (count - releases - base).toNat = raw
      ∧ discrepancy count releases base = if raw < 2 ^ 15 then (raw : Int) else (raw : Int) - 2 ^ 16 := by
  intro raw
  have hraw : (count - releases - base).toNat = raw := by
    simp only [raw, BitVec.toNat_sub]
    omega
  refine ⟨hraw, ?_⟩
  rw [discrepancy, BitVec.toInt_eq_toNat_cond, hraw]
  by_cases h : raw < 2 ^ 15
  · rw [if_pos h, if_pos (by omega)]
  · rw [if_neg h, if_neg (by omega)]
    rfl

/-- Settles O25: the first report takes the baseline; a later one charges XCHECK when the discrepancy is above the allowance. -/
theorem reportComparesCounts : Obligations.ReportComparesCounts := by
  constructor
  · intro s tag board count b hr hb hst hbase i x base u
    have hserve : serve i (s.takeOff i) = (s.takeOff i).takeBaseline tag b count :=
      (serveReport_active hb (by simpa using hst)).1 (by simpa using hbase)
    refine exec_served rfl hr (hserve.trans ?_)
    unfold State.takeBaseline State.modifyBoard
    simp only [takeOff_reads, takeOff_rest, u, x, base]
    rfl
  · intro s tag board count base b hr hb hst hbase i x raw disc allowance due u
    have hserve : serve i (s.takeOff i) = (s.takeOff i).crossCheck tag b count base :=
      (serveReport_active hb (by simpa using hst)).2 base (by simpa using hbase)
    obtain ⟨hraw, hdisc⟩ := discrepancy_eq count x.releases base
    have hallowance : (s.takeOff i).allowance b = allowance := by
      rw [takeOff_eq]
      rfl
    have hdue : (s.takeOff i).xcheckDue b (discrepancy count x.releases base) = decide due := by
      rw [State.xcheckDue, hallowance, hdisc, (takeOff_reads s i).1]
      simp [due, disc, raw, x]
    have hbits : bitsByte [false, decide due, true] = BitVec.ofNat 8 (2 * (decide due).toNat + 4) := by
      cases decide due <;> rfl
    refine exec_served rfl hr (hserve.trans ?_)
    unfold State.crossCheck
    simp only [takeOff_reads]
    rw [hdue, hraw, hallowance, hbits]
    simp only [decide_eq_true_eq]
    rfl

end Sys2Proof.Machine

/-! SUPPORT. The walk of a grant as a fold over the custody list, and the grant it makes (R122). -/

namespace Sys2Proof.Machine

/-! ## One slot of the walk -/

/-- What the walk of a grant to b does at a slot linked to b. -/
def State.readHeld (b : Bd) (t : State) (n : Nat) : State :=
  match t.slot n with
  | some (.record _ _ p parity) =>
    if readsClean p parity = true then t.offer .hold n b p.key p.watchSet else t.damageRecord n b p parity
  | some (.damaged _ _ _) | some .unattributed => t
  | none => t

/-- Slot n holds a record that does not read clean. -/
def State.uncleanAt (s : State) (n : Nat) : Bool :=
  match s.slot n with
  | some (.record _ _ p parity) => !readsClean p parity
  | some (.damaged _ _ _) | some .unattributed => false
  | none => false

/-- What slot n holds once the walk has read it. -/
def State.readSlot (s : State) (n : Nat) : Option Slot :=
  match s.slot n with
  | some (.record st b p parity) => if readsClean p parity = true then some (.record st b p parity) else some (.damaged b p parity)
  | some (.damaged b p parity) => some (.damaged b p parity)
  | some .unattributed => some .unattributed
  | none => none

theorem readHeld_cases (b : Bd) (t : State) (n : Nat) :
    (t.uncleanAt n = false ∧ ∃ st l p parity, t.slot n = some (.record st l p parity) ∧ readsClean p parity = true
        ∧ t.readHeld b n = t.offer .hold n b p.key p.watchSet)
      ∨ (t.uncleanAt n = true ∧ ∃ st l p parity, t.slot n = some (.record st l p parity) ∧ readsClean p parity = false
        ∧ t.readHeld b n = t.damageRecord n b p parity)
      ∨ (t.uncleanAt n = false ∧ (∀ st l p parity, t.slot n ≠ some (.record st l p parity)) ∧ t.readSlot n = t.slot n
        ∧ t.readHeld b n = t) := by
  cases hs : t.slot n with
  | none => exact .inr (.inr (by simp [State.uncleanAt, State.readSlot, State.readHeld, hs]))
  | some x =>
    cases x with
    | record st l p parity =>
      cases hp : readsClean p parity with
      | true => exact .inl ⟨by simp [State.uncleanAt, hs, hp], st, l, p, parity, rfl, hp, by simp [State.readHeld, hs, hp]⟩
      | false => exact .inr (.inl ⟨by simp [State.uncleanAt, hs, hp], st, l, p, parity, rfl, hp, by simp [State.readHeld, hs, hp]⟩)
    | damaged => exact .inr (.inr (by simp [State.uncleanAt, State.readSlot, State.readHeld, hs]))
    | unattributed => exact .inr (.inr (by simp [State.uncleanAt, State.readSlot, State.readHeld, hs]))

/-- Reading changes the slot read alone, and of the boards the damaged count of the walk's board. -/
theorem readHeld_reads {b : Bd} {t : State} {n : Nat} (hn : t.linkedTo b n = true) :
    (∀ m, (t.readHeld b n).slot m = if m = n then t.readSlot n else t.slot m)
      ∧ (t.readHeld b n).board b = { t.board b with damaged := (t.board b).damaged + (t.uncleanAt n).toNat }
      ∧ (t.readHeld b n).latches.verdict = t.latches.verdict := by
  rcases readHeld_cases b t n with ⟨hclean, st, l, p, parity, hs, hp, heq⟩ | ⟨hunclean, st, l, p, parity, hs, hp, heq⟩ | ⟨hclean, -, hs, heq⟩
  · rw [heq, hclean]
    refine ⟨fun m => ?_, by simp, by rw [offer_latches_eq]⟩
    by_cases hm : m = n
    · rw [if_pos hm, hm, (offer_reads ..).2.2.2.2.1]
      simp [State.readSlot, hs, hp]
    · rw [if_neg hm, (offer_reads ..).2.2.2.2.1]
  · obtain rfl : l = b := by simpa [State.linkedTo, hs] using hn
    rw [heq, hunclean]
    refine ⟨fun m => ?_, by rw [damageRecord_board, if_pos rfl]; rfl, rfl⟩
    rw [damageRecord_slot]
    simp [State.readSlot, hs, hp]
  · rw [heq, hclean]
    refine ⟨fun m => ?_, rfl, rfl⟩
    by_cases hm : m = n
    · rw [if_pos hm, hs, hm]
    · rw [if_neg hm]

/-- A slot is linked to the board that its content's link names. -/
theorem linkedTo_eq_linkOf (s : State) (b : Bd) (n : Nat) : s.linkedTo b n = decide (linkOf (s.slot n) = some b) := by
  unfold State.linkedTo linkOf
  cases s.slot n with
  | none => simp
  | some x => cases x <;> simp

theorem linkOf_readSlot (s : State) (n : Nat) : linkOf (s.readSlot n) = linkOf (s.slot n) := by
  unfold State.readSlot
  cases s.slot n with
  | none => rfl
  | some x =>
    cases x with
    | record st b p parity => cases hp : readsClean p parity <;> simp [linkOf, hp]
    | damaged => rfl
    | unattributed => rfl

theorem readHeld_linkedTo {b : Bd} {t : State} {n : Nat} (hn : t.linkedTo b n = true) (m : Nat) :
    (t.readHeld b n).linkedTo b m = t.linkedTo b m := by
  have hslot := (readHeld_reads hn).1 m
  simp only [linkedTo_eq_linkOf, hslot]
  by_cases hm : m = n
  · rw [if_pos hm, linkOf_readSlot, hm]
  · rw [if_neg hm]

/-! ## The walk -/

theorem foldl_readHeld_linkedTo {b : Bd} {l : List Nat} {t : State} (hl : ∀ n ∈ l, t.linkedTo b n = true) (m : Nat) :
    (l.foldl (State.readHeld b) t).linkedTo b m = t.linkedTo b m := by
  induction l generalizing t with
  | nil => rfl
  | cons n l ih =>
    have hn := hl n List.mem_cons_self
    rw [List.foldl_cons, ih fun k hk => (readHeld_linkedTo hn k).trans (hl k (List.mem_cons_of_mem n hk)), readHeld_linkedTo hn]

/-- Over slots linked to its board the walk reads one after the other. -/
theorem holdWalk_append (b : Bd) (rest : List Nat) {l : List Nat} {t : State} (hl : ∀ n ∈ l, t.linkedTo b n = true) :
    State.holdWalk b (l ++ rest) t = State.holdWalk b rest (l.foldl (State.readHeld b) t) := by
  induction l generalizing t with
  | nil => rfl
  | cons n l ih =>
    have hn := hl n List.mem_cons_self
    have hstep : State.holdWalk b (n :: (l ++ rest)) t = State.holdWalk b (l ++ rest) (t.readHeld b n) := by
      rcases readHeld_cases b t n with ⟨-, st, k, p, parity, hs, hp, heq⟩ | ⟨-, st, k, p, parity, hs, hp, heq⟩ | ⟨-, hs, -, heq⟩
      · simp [State.holdWalk, hn, hs, hp, heq]
      · simp [State.holdWalk, hn, hs, hp, heq]
      · rw [State.holdWalk, if_pos hn, heq]
        split
        next st k p parity hslot => exact absurd hslot (hs st k p parity)
        all_goals rfl
    rw [List.cons_append, hstep, List.foldl_cons, ih fun k hk => (readHeld_linkedTo hn k).trans (hl k (List.mem_cons_of_mem n hk))]

theorem holdWalk_of_linked {b : Bd} {l : List Nat} {t : State} (hl : ∀ n ∈ l, t.linkedTo b n = true) :
    State.holdWalk b l t = (l.foldl (State.readHeld b) t, true) := by
  have h := holdWalk_append b [] hl
  rwa [List.append_nil] at h

theorem holdWalk_of_broken {b : Bd} {reached beyond : List Nat} {bad : Nat} {t : State} (hl : ∀ n ∈ reached, t.linkedTo b n = true)
    (hbad : t.linkedTo b bad = false) :
    State.holdWalk b (reached ++ bad :: beyond) t = ((reached.foldl (State.readHeld b) t).enterHalted (.custodyList b), false) := by
  have hstop : (reached.foldl (State.readHeld b) t).linkedTo b bad = false := (foldl_readHeld_linkedTo hl bad).trans hbad
  rw [holdWalk_append b (bad :: beyond) hl, State.holdWalk, if_neg (by simp [hstop])]

/-- What the whole walk leaves: each slot of the list as read, the damaged count, and the verdict notices. -/
theorem foldl_readHeld_reads {b : Bd} {l : List Nat} {t : State} (hl : ∀ n ∈ l, t.linkedTo b n = true) (hnodup : l.Nodup) :
    (∀ m, (l.foldl (State.readHeld b) t).slot m = if m ∈ l then t.readSlot m else t.slot m)
      ∧ (l.foldl (State.readHeld b) t).board b = { t.board b with damaged := (t.board b).damaged + (l.filter t.uncleanAt).length }
      ∧ (l.foldl (State.readHeld b) t).latches.verdict = t.latches.verdict := by
  induction l generalizing t with
  | nil => simp
  | cons n l ih =>
    obtain ⟨hfresh, hnodup⟩ := List.nodup_cons.1 hnodup
    have hn := hl n List.mem_cons_self
    obtain ⟨hslot, hboard, hverdict⟩ := readHeld_reads hn
    have hsame : ∀ m, m ≠ n → (t.readHeld b n).slot m = t.slot m := fun m hm => by rw [hslot, if_neg hm]
    have hunclean : l.filter (t.readHeld b n).uncleanAt = l.filter t.uncleanAt :=
      List.filter_congr fun m hm => by
        simp only [State.uncleanAt, hsame m (by rintro rfl; exact hfresh hm)]
    obtain ⟨hslots, hboards, hverdicts⟩ := ih (fun k hk => (readHeld_linkedTo hn k).trans (hl k (List.mem_cons_of_mem n hk))) hnodup
    refine ⟨fun m => ?_, ?_, hverdicts.trans hverdict⟩
    · rw [List.foldl_cons, hslots]
      by_cases hm : m = n
      · subst hm
        rw [if_neg hfresh, if_pos List.mem_cons_self, hslot, if_pos rfl]
      · have hread : (t.readHeld b n).readSlot m = t.readSlot m := by simp only [State.readSlot, hsame m hm]
        rw [hread, hsame m hm]
        simp only [List.mem_cons, hm, false_or]
    · rw [List.foldl_cons, hboards, hunclean, hboard]
      cases hu : t.uncleanAt n
      · simp [hu]
      · simp [hu]
        omega

/-! ## The grant -/

/-- A grant up to its walk: the record silenced, the counts moved, the common-cause state re-evaluated and VERDICT latched. -/
def State.grantNoticed (s : State) (b : Bd) (path : VerdictPath) : State :=
  (State.reevaluateCommon
    { s with
      boards := s.boards.set b.val
        { s.board b with
          state := .silent, verdictTime := some s.clock, pending := false, graceEnd := none, stallExpiry := none
          lostExpiry := none } b.isLt
      lines := s.lines.set b.val { s.line b with intervalArmed := false } b.isLt
      withheld := s.withheld.set b.val none b.isLt
      active := s.active - 1
      doubtful := if (s.board b).state = .doubtful then s.doubtful - 1 else s.doubtful
      down := s.down + 1 }).latchVerdict b path

theorem grantVerdict_eq_holdRecords {s : State} {b : Bd} (path : VerdictPath) (hb : InService (s.board b).state) :
    s.grantVerdict b path = (s.grantNoticed b path).holdRecords b := by
  unfold State.grantVerdict State.grantNoticed State.silence
  congr 2
  rcases hb with hb | hb | hb <;> rw [hb, reportState_of_newCounts _ _ _ (by decide)] <;> simp [moveCount] <;> rfl

theorem grantNoticed_reads (s : State) (b : Bd) (path : VerdictPath) :
    (s.grantNoticed b path).board b =
        { s.board b with
          state := .silent, verdictTime := some s.clock, pending := false, graceEnd := none, stallExpiry := none
          lostExpiry := none }
      ∧ (∀ c, (s.grantNoticed b path).list c = s.list c) ∧ (∀ n, (s.grantNoticed b path).slot n = s.slot n)
      ∧ (∀ c n, (s.grantNoticed b path).linkedTo c n = s.linkedTo c n) := by
  have hslot : ∀ n, (s.grantNoticed b path).slot n = s.slot n := fun n => (reevaluateCommon_reads _).2.2.2.2.1 n
  refine ⟨((reevaluateCommon_reads _).1 b).trans (by simp [State.board]), fun c => (reevaluateCommon_reads _).2.2.2.1 c, hslot, fun c n => ?_⟩
  simp only [State.linkedTo, hslot]

/-- A walk that goes through ends in HALTED when the list's length is not the outstanding count, and else drains a board with
nothing outstanding. -/
theorem holdRecords_of_linked {t walked : State} {b : Bd} (hsilent : (t.board b).state = .silent)
    (hl : ∀ n ∈ t.list b, t.linkedTo b n = true) (hw : (t.list b).foldl (State.readHeld b) t = walked) :
    t.holdRecords b =
      if (t.list b).length = (t.board b).outstanding then
        if (t.board b).outstanding = 0 then walked.modifyBoard b fun x => { x with state := .drained } else walked
      else walked.enterHalted (.custodyList b) := by
  obtain ⟨-, ⟨d, hboard⟩, -, -, hlist⟩ := holdWalk_boards b (t.list b) t
  rw [holdWalk_of_linked hl, hw] at hboard hlist
  have hagrees : walked.countAgrees b = decide ((t.list b).length = (t.board b).outstanding) := by
    simp only [State.countAgrees, hlist b, hboard]
  have hout : (walked.board b).outstanding = (t.board b).outstanding := by rw [hboard]
  have hstate : (walked.board b).state = .silent := by rw [hboard]; exact hsilent
  unfold State.holdRecords
  rw [holdWalk_of_linked hl, hw]
  simp only [Bool.not_true, Bool.false_eq_true, if_false]
  rw [hagrees, hout, setBoardState_drained _ _ hstate]
  by_cases hcount : (t.list b).length = (t.board b).outstanding <;> simp [hcount]

theorem holdRecords_of_broken {t : State} {b : Bd} {reached beyond : List Nat} {bad : Nat} (hlist : t.list b = reached ++ bad :: beyond)
    (hl : ∀ n ∈ reached, t.linkedTo b n = true) (hbad : t.linkedTo b bad = false) :
    t.holdRecords b = (reached.foldl (State.readHeld b) t).enterHalted (.custodyList b) := by
  unfold State.holdRecords
  rw [hlist, holdWalk_of_broken hl hbad]
  rfl

/-- HOLD offered to a record as it stands in a state s. -/
def State.offerHeld (s : State) (b : Bd) (t : State) (n : Nat) : State :=
  match s.slot n with
  | some (.record _ _ p _) => t.offer .hold n b p.key p.watchSet
  | some (.damaged _ _ _) | some .unattributed => t
  | none => t

/-- Over slots that all read clean, the walk only offers HOLD. -/
theorem foldl_readHeld_of_clean {s t : State} {b : Bd} {l : List Nat} (hslots : ∀ n, t.slot n = s.slot n)
    (hclean : ∀ n ∈ l, s.uncleanAt n = false) : l.foldl (State.readHeld b) t = l.foldl (s.offerHeld b) t := by
  induction l generalizing t with
  | nil => rfl
  | cons n l ih =>
    have hrest : ∀ m ∈ l, s.uncleanAt m = false := fun m hm => hclean m (List.mem_cons_of_mem n hm)
    have hread : t.readHeld b n = s.offerHeld b t n := by
      have hn := hclean n List.mem_cons_self
      unfold State.readHeld State.offerHeld
      rw [hslots n]
      cases hs : s.slot n with
      | none => rfl
      | some x => cases x <;> simp_all [State.uncleanAt]
    have hkeep : ∀ m, (s.offerHeld b t n).slot m = s.slot m := by
      intro m
      unfold State.offerHeld
      split <;> simp [hslots]
    rw [List.foldl_cons, List.foldl_cons, hread]
    exact ih hkeep hrest

/-- Settles O23: the grant up to its walk, and the walk as a fold; in a sound clean table the fold only offers HOLD. -/
theorem grantHoldsRecords : Obligations.GrantHoldsRecords := by
  intro s b path hb silent noticed read halt drained
  have hgrant : s.grantVerdict b path = (s.grantNoticed b path).holdRecords b := grantVerdict_eq_holdRecords path hb
  obtain ⟨hboard, hlist, hslot, hlinked⟩ := grantNoticed_reads s b path
  have hsilent : ((s.grantNoticed b path).board b).state = .silent := by rw [hboard]
  have hout : ((s.grantNoticed b path).board b).outstanding = (s.board b).outstanding := by rw [hboard]
  have hwalk (hl : ∀ n ∈ s.list b, s.linkedTo b n = true) :
      s.grantVerdict b path = if (s.list b).length = (s.board b).outstanding then drained ((s.list b).foldl read noticed)
        else halt ((s.list b).foldl read noticed) := by
    rw [hgrant, holdRecords_of_linked hsilent (by simpa only [hlist, hlinked] using hl) rfl, hlist, hout]
    rfl
  refine ⟨hwalk, fun reached beyond bad hsplit hl hbad => ?_, fun htable hclean => ?_⟩
  · rw [hgrant, holdRecords_of_broken ((hlist b).trans hsplit) (by simpa only [hlinked] using hl) ((hlinked b bad).trans hbad)]
    rfl
  · intro held
    obtain ⟨-, hlinks, hcount, -⟩ := htable.2.2.2 b
    have hreads : ∀ n ∈ s.list b, s.uncleanAt n = false := by
      intro n _
      unfold State.uncleanAt
      split
      next st l p parity hs => simp [(hclean n st l p parity hs).1]
      all_goals rfl
    rw [hwalk fun n hn => (hlinks n).1 hn, if_pos hcount.symm]
    exact congrArg drained (foldl_readHeld_of_clean hslot hreads)

end Sys2Proof.Machine

/-! SUPPORT. DECLARE: the grant it makes in a sound table (R122, R123, R125). -/

namespace Sys2Proof.Machine

/-! ## What a reconsideration leaves of the notices -/

theorem reevaluateCommon_verdict (s : State) : s.reevaluateCommon.latches.verdict = s.latches.verdict := by
  unfold State.reevaluateCommon
  split <;> rfl

theorem reportState_verdict (s : State) (old new : BoardState) : (s.reportState old new).latches.verdict = s.latches.verdict := by
  unfold State.reportState
  dsimp only
  split
  · rfl
  · exact reevaluateCommon_verdict _

theorem setBoardState_verdict (s : State) (b : Bd) (new : BoardState) : (s.setBoardState b new).latches.verdict = s.latches.verdict :=
  reportState_verdict _ _ _

theorem holdWalk_verdict (b : Bd) (l : List Nat) (t : State) : (State.holdWalk b l t).1.latches.verdict = t.latches.verdict := by
  induction l generalizing t with
  | nil => rfl
  | cons n l ih =>
    unfold State.holdWalk
    split
    · split
      case h_1 p parity _ =>
        split
        · rw [ih, offer_latches_eq]
        · exact ih (t.damageRecord n b p parity)
      all_goals exact ih t
    · rfl

/-- A grant latches the verdict of its own board alone. -/
theorem grantVerdict_verdict (s : State) (b : Bd) (path : VerdictPath) :
    (s.grantVerdict b path).latches.verdict
      = s.latches.verdict.set b.val (some ((s.latches.verdict[b.val]).getD ⟨s.clock, path⟩)) b.isLt := by
  have hholds (t : State) (c : Bd) : (t.holdRecords c).latches.verdict = t.latches.verdict := by
    unfold State.holdRecords
    dsimp only
    split_ifs
    · exact holdWalk_verdict c _ t
    · exact holdWalk_verdict c _ t
    · exact (setBoardState_verdict _ c .drained).trans (holdWalk_verdict c _ t)
    · exact holdWalk_verdict c _ t
  have hreport := reportState_verdict (s.silence b) (s.board b).state .silent
  have hclock : ((s.silence b).reportState (s.board b).state .silent).clock = s.clock := by
    have hframe := (frame_silence s b).trans (frame_reportState (s.silence b) (s.board b).state .silent)
    unfold VerdictFrame at hframe
    have hclock := congrArg State.clock hframe
    exact hclock
  unfold State.grantVerdict
  rw [hholds]
  simp only [State.latchVerdict, State.modifyLatches, hreport, hclock]
  rfl

theorem recordCauses_verdict (s : State) (c : Cause) : (s.recordCauses c).latches.verdict = s.latches.verdict := by
  unfold State.recordCauses
  generalize allBoards = bs
  induction bs generalizing s with
  | nil => rfl
  | cons d bs ih =>
    rw [List.foldl_cons, ih]
    split <;> rfl

/-- The verdict notice of board b. -/
def State.verdictNotice (s : State) (b : Bd) : Option VerdictLatch := s.latches.verdict[b.val]

/-- A reconsideration keeps the verdict notice of a board that is not pending. -/
theorem reconsiderRounds_verdictNotice (k : Nat) (s : State) (b : Bd) (hb : s.cause b = none) :
    (State.reconsiderRounds k s).verdictNotice b = s.verdictNotice b := by
  induction k generalizing s with
  | zero => rfl
  | succ k ih =>
    unfold State.reconsiderRounds
    split
    · rfl
    next c rest horder =>
      have hpending : (s.cause c).isSome = true := (mem_grantOrder s c).1 (by rw [horder]; exact List.mem_cons_self)
      have hcb : b ≠ c := by
        rintro rfl
        simp [hb] at hpending
      split
      · obtain ⟨-, -, hcause⟩ := (grantVerdict_boards s c .automatic).1 b hcb
        rw [ih _ (hcause.trans hb)]
        simp only [State.verdictNotice, grantVerdict_verdict]
        exact Vector.getElem_set_ne _ _ fun h => hcb (Fin.ext h.symm)
      · simp only [State.verdictNotice, recordCauses_verdict]

theorem afterExit_verdictNotice (s t : State) (b : Bd) (hb : t.cause b = none) : (s.afterExit t).verdictNotice b = t.verdictNotice b := by
  rw [afterExit_eq]
  split
  · exact reconsiderRounds_verdictNotice 33 t b hb
  · rfl

theorem readSlot_of_clean {s : State} {n : Nat} (hn : s.uncleanAt n = false) : s.readSlot n = s.slot n := by
  cases hs : s.slot n with
  | none => simp [State.readSlot, hs]
  | some x => cases x <;> simp_all [State.readSlot, State.uncleanAt]

/-! ## A grant in a sound table -/

theorem grantVerdict_of_table {s : State} {b : Bd} (path : VerdictPath) (hb : InService (s.board b).state) (htable : s.TableWf) :
    (s.grantVerdict b path).board b =
        { s.board b with
          state := if (s.board b).outstanding = 0 then .drained else .silent
          verdictTime := some s.clock, pending := false, graceEnd := none, stallExpiry := none, lostExpiry := none
          damaged := (s.board b).damaged + ((s.list b).filter s.uncleanAt).length }
      ∧ ∀ m, (s.grantVerdict b path).slot m = if m ∈ s.list b then s.readSlot m else s.slot m := by
  obtain ⟨hnodup, hlinks, hcount, -⟩ := htable.2.2.2 b
  obtain ⟨hboard, hlist, hslot, hlinked⟩ := grantNoticed_reads s b path
  have hl : ∀ n ∈ s.list b, (s.grantNoticed b path).linkedTo b n = true := fun n hn => (hlinked b n).trans ((hlinks n).1 hn)
  have hread : (s.grantNoticed b path).readSlot = s.readSlot := by
    funext m
    simp only [State.readSlot, hslot]
  have hunclean : (s.grantNoticed b path).uncleanAt = s.uncleanAt := by
    funext m
    simp only [State.uncleanAt, hslot]
  obtain ⟨hslots, hwalked, -⟩ := foldl_readHeld_reads hl hnodup
  rw [hread] at hslots
  rw [hunclean, hboard] at hwalked
  rw [grantVerdict_eq_holdRecords path hb, holdRecords_of_linked (by rw [hboard]) (by rw [hlist]; exact hl) rfl, hlist, hboard,
    if_pos hcount.symm]
  by_cases hnone : (s.board b).outstanding = 0
  · simp only [hnone, if_true]
    refine ⟨?_, fun m => ?_⟩
    · simp [hwalked, hnone]
    · exact (hslots m).trans (by simp only [hslot])
  · simp only [hnone, if_false]
    exact ⟨hwalked, fun m => by simpa only [hslot] using hslots m⟩

theorem grantVerdict_counts {s : State} {b : Bd} (path : VerdictPath) (hb : InService (s.board b).state) :
    (s.grantVerdict b path).active = s.active - 1 ∧ (s.grantVerdict b path).down = s.down + 1
      ∧ (s.grantVerdict b path).doubtful = if (s.board b).state = .doubtful then s.doubtful - 1 else s.doubtful := by
  have hsilent : ((s.grantNoticed b path).board b).state = .silent := by rw [(grantNoticed_reads s b path).1]
  obtain ⟨_, _, _, _, _, _, heq⟩ := holdRecords_eq (s.grantNoticed b path) b hsilent
  rw [grantVerdict_eq_holdRecords path hb, heq]
  obtain ⟨-, -, -, -, -, hactive, hdoubtful, hdown, -⟩ := reevaluateCommon_reads
    { s with
      boards := s.boards.set b.val
        { s.board b with
          state := .silent, verdictTime := some s.clock, pending := false, graceEnd := none, stallExpiry := none
          lostExpiry := none } b.isLt
      lines := s.lines.set b.val { s.line b with intervalArmed := false } b.isLt
      withheld := s.withheld.set b.val none b.isLt
      active := s.active - 1
      doubtful := if (s.board b).state = .doubtful then s.doubtful - 1 else s.doubtful
      down := s.down + 1 }
  exact ⟨hactive, hdown, hdoubtful⟩

/-! ## The statement -/

theorem serveDeclare_accepted {t u : State} {tag board : Byte} {b : Bd} (hb : board.toNat = b.val) (hst : InService (t.board b).state)
    (hd : t.down < t.maxDown) (hu : t.afterExit (t.grantVerdict b .declared) = u) :
    serveDeclare tag board t = u.answer 0x09 tag .accepted
      ((u.board b).state.byte :: be 4 ((u.board b).verdictTime.getD 0).toNat ++ be 2 (u.board b).outstanding) := by
  simp [serveDeclare, (toBd_some board b).2 hb, (isActive_iff _).2 hst, Nat.not_le.2 hd, hu, optTime]

/-- Settles O22: the grant of the state without the request's frame, which the reconsideration of an exit leaves. -/
theorem declareSilencesBoard : Obligations.DeclareSilencesBoard := by
  intro s tag board b hr hb hst hd i v w
  have hstate : InService ((s.takeOff i).board b).state := by simpa using hst
  have hmax : (s.takeOff i).maxDown = s.maxDown := by
    rw [takeOff_eq]
    rfl
  have hdown : (s.takeOff i).down < (s.takeOff i).maxDown := by
    rw [hmax]
    simpa using hd
  have hw : (s.takeOff i).afterExit v = w := by
    rw [afterExit_eq]
    simp [w]
  have hreconsidered : Reconsidered v w := hw ▸ afterExit_reconsidered _ v
  refine ⟨exec_served rfl hr (serveDeclare_accepted hb hstate hdown hw), (frame_grantVerdict _ b _).trans hreconsidered.1, fun htable => ?_⟩
  intro unclean
  have htable' : (s.takeOff i).TableWf := by
    rw [takeOff_eq]
    exact htable
  have hread : (s.takeOff i).readSlot = s.readSlot := by
    funext n
    simp only [State.readSlot, takeOff_reads]
  have hunclean : (s.takeOff i).uncleanAt = unclean := by
    funext n
    simp only [State.uncleanAt, takeOff_reads]
    rfl
  obtain ⟨hothers, -, hline, hcause, -⟩ := grantVerdict_boards (s.takeOff i) b .declared
  obtain ⟨hboard, hslot⟩ := grantVerdict_of_table .declared hstate htable'
  obtain ⟨hactive, hdowns, hdoubtful⟩ := grantVerdict_counts .declared hstate
  simp only [takeOff_reads, takeOff_rest, hunclean, hread] at hothers hline hboard hslot hactive hdowns hdoubtful
  obtain ⟨hkeepBoard, hkeepLine, hkeepCause⟩ := hreconsidered.2 b hcause
  have hverdict : w.verdictNotice b = some ((s.latches.verdict[b.val]).getD ⟨s.clock, .declared⟩) := by
    rw [← hw, afterExit_verdictNotice _ v b hcause]
    simp [State.verdictNotice, v, grantVerdict_verdict]
  refine ⟨hkeepBoard.trans hboard, hkeepLine.trans hline, hkeepCause, hverdict, fun n hn => ?_, fun n st p parity hn hs hp => ?_,
    hactive, hdowns, hdoubtful, ?_, hothers, fun c hc hcausec => ?_⟩
  · rw [hslot]
    split
    next hmem =>
      have hclean : s.uncleanAt n = false := hn.resolve_left fun h => h hmem
      exact readSlot_of_clean hclean
    · rfl
  · rw [hslot, if_pos hn]
    simp [State.readSlot, hs, hp]
  · have hhalted := (grantVerdict_tableWf b .declared htable').2
    simpa using hhalted
  · obtain ⟨hb', hl', hc'⟩ := hothers c hc
    obtain ⟨hb'', hl'', hc''⟩ := hreconsidered.2 c (hc'.trans hcausec)
    exact ⟨hb''.trans hb', hl''.trans hl', hc''⟩

end Sys2Proof.Machine

/-! SUPPORT. Charges and credits step by step, and the re-evaluation of the common-cause state (R97, R98, R118). -/

namespace Sys2Proof.Machine

/-! ## The common-cause state (R118) -/

theorem commonNow_iff (s : State) :
    s.commonNow = true ↔ s.ccPct ≠ 0 ∧ 2 ≤ s.doubtful ∧ s.ccPct * s.active ≤ s.doubtful * 100 := by
  simp [State.commonNow, commonHolds, and_assoc]

theorem reevaluateCommon_of_same {s : State} (h : s.commonNow = s.commonCause) : s.reevaluateCommon = s := if_pos h

theorem reevaluateCommon_of_changed {s : State} (h : s.commonNow ≠ s.commonCause) :
    s.reevaluateCommon = { s with commonCause := s.commonNow }.latchCommon (if s.commonNow then .entry else .exit) := if_neg h

/-- Settles O30: the state re-evaluated is the condition of the counts as they stand; a change latches COMMON. -/
theorem commonCauseReevaluated : Obligations.CommonCauseReevaluated := by
  intro s pct t
  have hnow : t.commonCause = s.commonNow := (reevaluateCommon_reads s).2.2.2.2.2.2.2.2
  refine ⟨by rw [hnow]; exact commonNow_iff s, fun h => ?_, fun h => ?_⟩
  · exact reevaluateCommon_of_same (hnow.symm.trans h)
  · rw [hnow] at h ⊢
    exact reevaluateCommon_of_changed h

/-! ## Charges (R94, R97) -/

theorem charge_of_chargeable {s : State} {b : Bd} (kind : Evidence) (hb : Chargeable (s.board b).state) :
    s.charge b kind = s.applyCharge b kind := by
  rcases hb with hb | hb <;> simp [State.charge, hb]

theorem charge_of_not_chargeable {s : State} {b : Bd} (kind : Evidence) (hb : ¬ Chargeable (s.board b).state) :
    s.charge b kind = s := by
  cases hst : (s.board b).state <;> simp_all [Chargeable, State.charge]

theorem setBoardState_doubtful {s : State} {b : Bd} (hb : (s.board b).state = .live) :
    s.setBoardState b .doubtful =
      State.reevaluateCommon { s with
        boards := s.boards.set b.val { s.board b with state := .doubtful } b.isLt
        doubtful := s.doubtful + 1 } := by
  unfold State.setBoardState
  rw [hb, reportState_of_newCounts _ _ _ (by decide)]
  rfl

theorem setBoardState_live {s : State} {b : Bd} (hb : (s.board b).state = .doubtful) :
    s.setBoardState b .live =
      State.reevaluateCommon { s with
        boards := s.boards.set b.val { s.board b with state := .live } b.isLt
        doubtful := s.doubtful - 1 } := by
  unfold State.setBoardState
  rw [hb, reportState_of_newCounts _ _ _ (by decide)]
  rfl

/-- The levels stand while verdicts are asked for and granted. -/
theorem VerdictFrame.levelV {s t : State} (h : VerdictFrame s t) : t.levelV = s.levelV := by
  unfold VerdictFrame at h
  have hlevels := congrArg State.levelV h
  exact hlevels

/-- Settles O27: the raised record, the move to DOUBTFUL with its reconsideration, the request, and the heartbeat notice. -/
theorem chargeSteps : Obligations.ChargeSteps := by
  intro s b kind
  refine ⟨charge_of_not_chargeable kind, fun hb => ?_⟩
  intro x weight score crossed raised counted reported y asked
  have hweight : Weights.of s.effWeights kind = weight.toNat := by
    cases kind <;> rfl
  have hraise : s.raiseScore b kind = s.modifyBoard b fun x => { x with score := score, charges := min 65535 (x.charges + 1) } :=
    modifyBoard_congr (by simp only [Board.charged, hweight]; rfl)
  have hreported : (s.raiseScore b kind).doubtIfAlerted b (.item kind) = reported := by
    have hstate : ((s.raiseScore b kind).board b).state = x.state := by simp [hraise, x]
    have hscore : ((s.raiseScore b kind).board b).score = score := by simp [hraise]
    have hcommon : (s.raiseScore b kind).commonCause = s.commonCause := rfl
    have hlevel : (s.raiseScore b kind).levelA = s.effThresholds.alert.toNat := rfl
    unfold State.doubtIfAlerted
    rw [hstate, hscore, hlevel]
    by_cases hc : crossed
    · have hcounted : ((s.raiseScore b kind).setBoardState b .doubtful).latchDoubt b (.item kind) = counted := by
        rw [setBoardState_doubtful (hstate.trans hc.1), hraise]
        show (State.reevaluateCommon { State.modifyBoard (s.modifyBoard b _) b (fun x => { x with state := .doubtful }) with
          doubtful := s.doubtful + 1 }).latchDoubt b (.item kind) = counted
        rw [modifyBoard_modifyBoard]
        simp only [counted, raised, if_pos hc]
        rfl
      simp only [reported]
      rw [if_pos hc, if_pos hc, State.becomeDoubtful, hcounted, afterExit_eq, hcommon]
    · simp only [reported]
      rw [if_neg hc, if_neg hc, hraise]
      simp only [raised, if_neg hc]
      rfl
  have hlevel : reported.levelV = s.effThresholds.verdict.toNat := by
    rw [← hreported, (frame_doubtIfAlerted _ b _).levelV]
    rfl
  have hasked : reported.requestIfDue b = asked := by
    unfold State.requestIfDue
    rw [hlevel]
  rw [charge_of_chargeable kind hb, State.applyCharge, hreported, hasked]
  cases kind <;> rfl

/-! ## Credits (R98) -/

/-- Settles O28: the score paid down, the pending set left, and the return to LIVE with its reconsideration. -/
theorem creditSteps : Obligations.CreditSteps := by
  intro s b x score leaves paid live back
  have hpaid : (s.payDown b).leavePendingIfBelow b = paid := by
    have hpending : ((s.payDown b).board b).pending = x.pending := by simp [State.payDown, x]
    have hscore : ((s.payDown b).board b).score = score := by simp [State.payDown, score, x, State.shiftD]
    have hlevel : (s.payDown b).levelV = s.effThresholds.verdict.toNat := rfl
    unfold State.leavePendingIfBelow
    rw [hpending, hscore, hlevel]
    by_cases h : leaves
    · simp only [paid, if_pos h]
      rw [if_pos h]
      show State.setCause ((s.payDown b).modifyBoard b fun x => { x with pending := false }) b none = _
      rw [State.payDown, modifyBoard_modifyBoard]
      rfl
    · simp only [paid, if_neg h]
      rw [if_neg h]
      rfl
  have hstate : (paid.board b).state = x.state := by simp [paid, State.board, x]
  have hscore : (paid.board b).score = score := by simp [paid, State.board]
  have hreturns : paid.returnsToLive b
      = decide (x.state = .doubtful ∧ score + s.effThresholds.hysteresis.toNat < s.effThresholds.alert.toNat) := by
    rw [State.returnsToLive, hstate, hscore]
    rfl
  rw [State.credit, hpaid, State.settleCredit, hreturns]
  simp only [decide_eq_true_eq]
  by_cases h : x.state = .doubtful ∧ score + s.effThresholds.hysteresis.toNat < s.effThresholds.alert.toNat
  · have hback : paid.setBoardState b .live = back := setBoardState_live (hstate.trans h.1)
    rw [if_pos h, if_pos h, State.backToLive, hback, afterExit_eq]
  · rw [if_neg h, if_neg h]

end Sys2Proof.Machine

/-! SUPPORT. The reconsideration of the pending set: its order, its rounds, and the causes it records (R121). -/

namespace Sys2Proof.Machine

/-! ## The grant order -/

/-- Board b is granted before board c: a higher score, or the lower slot among equals. -/
def State.grantsBefore (s : State) (b c : Bd) : Prop :=
  (s.board c).score < (s.board b).score ∨ (s.board c).score = (s.board b).score ∧ b.val < c.val

theorem insertByScore_pairwise {s : State} {b : Bd} {l : List Bd} (hl : l.Pairwise s.grantsBefore) (hb : ∀ c ∈ l, b < c) :
    (s.insertByScore b l).Pairwise s.grantsBefore := by
  induction l with
  | nil => exact List.pairwise_singleton _ _
  | cons c l ih =>
    obtain ⟨hc, hrest⟩ := List.pairwise_cons.1 hl
    unfold State.insertByScore
    split
    next hle =>
      refine List.pairwise_cons.2 ⟨fun d hd => ?_, hl⟩
      have hbd : b.val < d.val := hb d hd
      rcases List.mem_cons.1 hd with rfl | hd
      · unfold State.grantsBefore
        omega
      · have hcd := hc d hd
        unfold State.grantsBefore at hcd ⊢
        omega
    next hgt =>
      refine List.pairwise_cons.2 ⟨fun d hd => ?_, ih hrest fun d hd => hb d (List.mem_cons_of_mem c hd)⟩
      rcases (mem_insertByScore s b d l).1 hd with rfl | hd
      · exact .inl (Nat.not_le.1 hgt)
      · exact hc d hd

theorem foldr_insertByScore_mem (s : State) (b : Bd) (l : List Bd) : b ∈ l.foldr s.insertByScore [] ↔ b ∈ l := by
  induction l with
  | nil => rfl
  | cons c l ih => rw [List.foldr_cons, mem_insertByScore, List.mem_cons, ih]

theorem foldr_insertByScore_pairwise (s : State) {l : List Bd} (hl : l.Pairwise (· < ·)) :
    (l.foldr s.insertByScore []).Pairwise s.grantsBefore := by
  induction l with
  | nil => exact List.Pairwise.nil
  | cons b l ih =>
    obtain ⟨hb, hrest⟩ := List.pairwise_cons.1 hl
    exact insertByScore_pairwise (ih hrest) fun c hc => hb c ((foldr_insertByScore_mem s c l).1 hc)

/-- The grant order is by falling score, and by slot among equal scores. -/
theorem grantOrder_pairwise (s : State) : s.grantOrder.Pairwise s.grantsBefore :=
  foldr_insertByScore_pairwise s (List.Pairwise.filter _ (by decide))

/-- A pending board that no other goes before is the first to be granted. -/
theorem grantOrder_head {s : State} {b : Bd} (hb : s.cause b ≠ none)
    (hmax : ∀ c, s.cause c ≠ none → (s.board c).score < (s.board b).score ∨ (s.board c).score = (s.board b).score ∧ b ≤ c) :
    ∃ rest, s.grantOrder = b :: rest := by
  have hmem : b ∈ s.grantOrder := (mem_grantOrder s b).2 (Option.isSome_iff_ne_none.2 hb)
  cases horder : s.grantOrder with
  | nil => simp [horder] at hmem
  | cons c rest =>
    have hc : s.cause c ≠ none := Option.isSome_iff_ne_none.1 ((mem_grantOrder s c).1 (by rw [horder]; exact List.mem_cons_self))
    have hsorted := grantOrder_pairwise s
    rw [horder] at hsorted hmem
    rcases List.mem_cons.1 hmem with rfl | hlater
    · exact ⟨rest, rfl⟩
    · have hbefore := (List.pairwise_cons.1 hsorted).1 b hlater
      unfold State.grantsBefore at hbefore
      rcases hmax c hc with hbest | ⟨hbest, hle⟩
      · omega
      · have hle' : b.val ≤ c.val := hle
        omega

/-! ## The causes recorded -/

/-- The cause c recorded for board b, when b is pending with another. -/
def State.recordCause (c : Cause) (t : State) (b : Bd) : State :=
  if (t.cause b).isSome && decide (t.cause b ≠ some c) then (t.setCause b (some c)).latchWithheld b c else t

/-- The withholding notice of board b. -/
def State.withheldNotice (s : State) (b : Bd) : Option WithheldLatch := s.latches.withheld[b.val]

theorem recordCause_reads (c : Cause) (t : State) (b d : Bd) :
    (t.recordCause c b).cause d = (if d = b ∧ t.cause d ≠ none then some c else t.cause d)
      ∧ (t.recordCause c b).withheldNotice d
        = (if d = b ∧ t.cause d ≠ none ∧ t.cause d ≠ some c then some ((t.withheldNotice d).getD ⟨t.clock, c⟩) else t.withheldNotice d) := by
  by_cases hd : d = b
  · subst hd
    by_cases hdiffers : t.cause d ≠ none ∧ t.cause d ≠ some c
    · have heq : t.recordCause c d = (t.setCause d (some c)).latchWithheld d c := by
        simp [State.recordCause, Option.isSome_iff_ne_none, hdiffers]
      rw [heq, if_pos ⟨rfl, hdiffers.1⟩, if_pos ⟨rfl, hdiffers⟩]
      constructor
      · simp [State.cause, State.setCause, State.latchWithheld, State.modifyLatches]
      · simp [State.setCause, State.latchWithheld, State.modifyLatches, State.withheldNotice]
    · have heq : t.recordCause c d = t := by
        unfold State.recordCause
        rw [if_neg (by simpa [Option.isSome_iff_ne_none] using hdiffers)]
      rw [heq]
      refine ⟨?_, (if_neg fun h => hdiffers h.2).symm⟩
      by_cases hpending : t.cause d = none
      · simp [hpending]
      · rw [if_pos ⟨rfl, hpending⟩]
        exact not_not.1 fun h => hdiffers ⟨hpending, h⟩
  · unfold State.recordCause
    have hne : b.val ≠ d.val := fun h => hd (Fin.ext h.symm)
    split <;>
      simp [hd, hne, State.cause, State.setCause, State.latchWithheld, State.modifyLatches, State.withheldNotice]

/-- Recording causes changes causes and withholding notices alone. -/
def CausesFrame (s t : State) : Prop :=
  { t with withheld := s.withheld, latches := { t.latches with withheld := s.latches.withheld } } = s

theorem recordCause_frame (c : Cause) (t : State) (b : Bd) : CausesFrame t (t.recordCause c b) := by
  unfold State.recordCause
  split <;> rfl

theorem CausesFrame.trans {s t u : State} (h : CausesFrame s t) (k : CausesFrame t u) : CausesFrame s u := by
  unfold CausesFrame at *
  rw [← h, ← k]

theorem foldl_recordCause_reads (c : Cause) (s : State) {bs : List Bd} (hbs : bs.Nodup) (d : Bd) :
    (bs.foldl (State.recordCause c) s).cause d = (if d ∈ bs ∧ s.cause d ≠ none then some c else s.cause d)
      ∧ (bs.foldl (State.recordCause c) s).withheldNotice d
        = (if d ∈ bs ∧ s.cause d ≠ none ∧ s.cause d ≠ some c then some ((s.withheldNotice d).getD ⟨s.clock, c⟩) else s.withheldNotice d)
      ∧ CausesFrame s (bs.foldl (State.recordCause c) s) := by
  induction bs generalizing s with
  | nil => exact ⟨by simp, by simp, rfl⟩
  | cons b bs ih =>
    obtain ⟨hfresh, hnodup⟩ := List.nodup_cons.1 hbs
    obtain ⟨hcause, hnotice⟩ := recordCause_reads c s b d
    obtain ⟨hcauses, hnotices, hframe⟩ := ih (s.recordCause c b) hnodup
    have hclock : (s.recordCause c b).clock = s.clock := by
      unfold State.recordCause
      split <;> rfl
    rw [List.foldl_cons]
    refine ⟨hcauses.trans ?_, hnotices.trans ?_, (recordCause_frame c s b).trans hframe⟩
    · rw [hcause]
      by_cases hd : d = b
      · subst hd
        simp [hfresh]
      · simp [hd]
    · rw [hcause, hnotice, hclock]
      by_cases hd : d = b
      · subst hd
        simp [hfresh]
      · simp [hd]

theorem recordCauses_spec (c : Cause) (s : State) (d : Bd) :
    (s.recordCauses c).cause d = (if s.cause d = none then none else some c)
      ∧ (s.recordCauses c).withheldNotice d
        = (if s.cause d ≠ none ∧ s.cause d ≠ some c then some ((s.withheldNotice d).getD ⟨s.clock, c⟩) else s.withheldNotice d)
      ∧ CausesFrame s (s.recordCauses c) := by
  obtain ⟨hcause, hnotice, hframe⟩ := foldl_recordCause_reads c s (bs := allBoards) (by decide) d
  refine ⟨hcause.trans ?_, hnotice.trans ?_, hframe⟩
  · by_cases h : s.cause d = none <;> simp [mem_allBoards, h]
  · simp [mem_allBoards]

/-! ## The rounds -/

theorem reconsiderRounds_of_none {s : State} (h : ∀ b, s.cause b = none) (k : Nat) : State.reconsiderRounds k s = s := by
  have horder : s.grantOrder = [] := List.eq_nil_iff_forall_not_mem.2 fun b hb => by simp [mem_grantOrder, h b] at hb
  cases k with
  | zero => rfl
  | succ k => rw [State.reconsiderRounds, horder]

theorem reconsiderRounds_succ_of_withheld {s : State} {c : Cause} (hc : s.withholdCause = some c) (k : Nat) :
    State.reconsiderRounds (k + 1) s = if s.grantOrder = [] then s else s.recordCauses c := by
  rw [State.reconsiderRounds]
  cases s.grantOrder with
  | nil => rfl
  | cons b rest =>
    dsimp only
    rw [hc]
    rfl

theorem reconsiderRounds_succ_of_met {s : State} {b : Bd} {rest : List Bd} (hmet : s.withholdCause = none) (horder : s.grantOrder = b :: rest)
    (k : Nat) : State.reconsiderRounds (k + 1) s = State.reconsiderRounds k (s.grantVerdict b .automatic) := by
  rw [State.reconsiderRounds, horder]
  dsimp only
  rw [hmet]

/-- Enough rounds end with no pending board, or with a failing condition recorded as every pending board's cause. -/
theorem reconsiderRounds_complete (k : Nat) (s : State) (hk : s.pendingCount < k) :
    (∀ b, (State.reconsiderRounds k s).cause b = none) ∨ ∃ c, (State.reconsiderRounds k s).withholdCause = some c
      ∧ ∀ b, (State.reconsiderRounds k s).cause b = none ∨ (State.reconsiderRounds k s).cause b = some c := by
  induction k generalizing s with
  | zero => exact absurd hk (Nat.not_lt_zero _)
  | succ k ih =>
    cases horder : s.grantOrder with
    | nil =>
      have hnone : ∀ b, s.cause b = none := fun b => by
        have hb := mem_grantOrder s b
        simpa [horder] using hb
      rw [reconsiderRounds_of_none hnone]
      exact .inl hnone
    | cons b rest =>
      have hb : (s.cause b).isSome = true := (mem_grantOrder s b).1 (by rw [horder]; exact List.mem_cons_self)
      cases hc : s.withholdCause with
      | none =>
        have hfewer := pendingCount_grant s b hb .automatic
        rw [reconsiderRounds_succ_of_met hc horder]
        exact ih _ (by omega)
      | some c =>
        rw [reconsiderRounds_succ_of_withheld hc, horder, if_neg (List.cons_ne_nil _ _)]
        refine .inr ⟨c, ((recordCauses_reads s c).2.2.2).trans hc, fun d => ?_⟩
        rw [(recordCauses_spec c s d).1]
        split
        · exact .inl rfl
        · exact .inr rfl

/-- Past the number of pending boards, further rounds change nothing. -/
theorem reconsiderRounds_succ (k : Nat) (s : State) (hk : s.pendingCount < k) :
    State.reconsiderRounds (k + 1) s = State.reconsiderRounds k s := by
  induction k generalizing s with
  | zero => exact absurd hk (Nat.not_lt_zero _)
  | succ k ih =>
    cases hc : s.withholdCause with
    | some c => rw [reconsiderRounds_succ_of_withheld hc, reconsiderRounds_succ_of_withheld hc]
    | none =>
      cases horder : s.grantOrder with
      | nil =>
        have hnone : ∀ b, s.cause b = none := fun b => by
          have hb := mem_grantOrder s b
          simpa [horder] using hb
        rw [reconsiderRounds_of_none hnone, reconsiderRounds_of_none hnone]
      | cons b rest =>
        have hb : (s.cause b).isSome = true := (mem_grantOrder s b).1 (by rw [horder]; exact List.mem_cons_self)
        have hfewer := pendingCount_grant s b hb .automatic
        rw [reconsiderRounds_succ_of_met hc horder, reconsiderRounds_succ_of_met hc horder]
        exact ih _ (by omega)

/-- With a condition failing, a reconsideration records its cause for the pending boards. -/
theorem reconsider_of_withheld {s : State} {c : Cause} (hc : s.withholdCause = some c) (d : Bd) :
    s.reconsider.cause d = (if s.cause d = none then none else some c)
      ∧ s.reconsider.withheldNotice d
        = (if s.cause d ≠ none ∧ s.cause d ≠ some c then some ((s.withheldNotice d).getD ⟨s.clock, c⟩) else s.withheldNotice d)
      ∧ CausesFrame s s.reconsider := by
  rw [State.reconsider, reconsiderRounds_succ_of_withheld hc]
  by_cases horder : s.grantOrder = []
  · have hnone : s.cause d = none := by
      have hd := mem_grantOrder s d
      simpa [horder] using hd
    rw [if_pos horder]
    exact ⟨by simp [hnone], by simp [hnone], rfl⟩
  · rw [if_neg horder]
    exact recordCauses_spec c s d

/-- Settles O31: the rounds end complete, the first of the grant order is granted first, and a failing condition is recorded. -/
theorem reconsiderationGrantsAndCompletes : Obligations.ReconsiderationGrantsAndCompletes := by
  refine ⟨fun s => ?complete, fun s b hmet hb hmax => ?granted, fun s c hc => ?withheld⟩
  case complete =>
    have hfew := pendingCount_le s
    exact ⟨reconsiderRounds_complete 33 s (by omega), reconsider_reconsidered s⟩
  case granted =>
    obtain ⟨rest, horder⟩ := grantOrder_head hb hmax
    have hfew := pendingCount_le s
    have hfewer := pendingCount_grant s b (Option.isSome_iff_ne_none.2 hb) .automatic
    rw [State.reconsider, reconsiderRounds_succ_of_met hmet horder, ← reconsiderRounds_succ 32 _ (by omega)]
    rfl
  case withheld =>
    intro t
    refine ⟨fun b => ?_, fun b => ?_, ?_⟩
    · exact (reconsider_of_withheld hc b).1
    · exact (reconsider_of_withheld hc b).2.1
    · exact (reconsider_of_withheld hc 0).2.2

end Sys2Proof.Machine

/-! SUPPORT. PURGE: the damaged records of a board's list, or the unattributed damaged slots, freed one after another (R129), and the
refusals of TAKE and PURGE (R126, R129, R152). -/

namespace Sys2Proof.Machine

/-! ## A damaged record of a list freed -/

/-- A removal from any board's list: a SILENT board is drained when its list is left empty. -/
theorem leaveList_any (s : State) (b : Bd) (n : Nat) (d : Bool) :
    s.leaveList b n d =
      (s.setList b ((s.list b).erase n)).modifyBoard b fun x =>
        let o := if (s.list b).erase n = [] then 0 else x.outstanding - 1
        { x with
          outstanding := o, damaged := x.damaged - d.toNat, stallExpiry := if o = 0 then none else x.stallExpiry
          state := if (s.list b).erase n = [] ∧ x.state = .silent then .drained else x.state } := by
  by_cases hb : (s.board b).state = .silent
  · rw [leaveList_of_silent s b n d hb]
    exact modifyBoard_congr (by by_cases he : (s.list b).erase n = [] <;> simp [hb, he])
  · rw [leaveList_eq s b n d (.inr hb)]
    exact modifyBoard_congr (by simp [hb])

/-- The table-high flag after the slots ns were freed (R17). -/
def State.armedWithout (s : State) (ns : List Nat) : Bool :=
  if ns ≠ [] ∧ s.occupancy - ns.length + 256 < s.highMark then true else s.tableHighArmed

/-- The flag after one slot, and then the others, were freed. -/
theorem armedWithout_cons (s : State) (n : Nat) (ns : List Nat) :
    (if ns ≠ [] ∧ s.occupancy - 1 - ns.length + 256 < s.highMark then true else s.armedWithout [n]) = s.armedWithout (n :: ns) := by
  have hless : s.occupancy - (ns.length + 1) = s.occupancy - 1 - ns.length := by omega
  by_cases hns : ns = []
  · simp [hns]
  · by_cases hlow : s.occupancy - 1 - ns.length + 256 < s.highMark
    · simp [State.armedWithout, hns, hless, hlow]
    · have hhigh : ¬ s.occupancy - 1 + 256 < s.highMark := by omega
      simp [State.armedWithout, hns, hless, hlow, hhigh]

/-- The record of a board whose list lost ns and keeps the list left. -/
def Board.purged (x : Board) (ns left : List Nat) : Board :=
  { x with
    state := if ns ≠ [] ∧ left = [] ∧ x.state = .silent then .drained else x.state
    outstanding := left.length
    damaged := x.damaged - ns.length
    stallExpiry := if ns ≠ [] ∧ left = [] then none else x.stallExpiry }

/-- The slots ns of board b's list freed, the others left in their places. -/
def State.purged (s : State) (b : Bd) (ns : List Nat) : State :=
  { s with
    slots := s.slots.filter fun e => decide (e.1 ∉ ns)
    free := s.free ++ ns
    occupancy := s.occupancy - ns.length
    tableHighArmed := s.armedWithout ns
    lists := s.lists.set b.val ((s.list b).filter fun n => decide (n ∉ ns)) b.isLt
    boards := s.boards.set b.val ((s.board b).purged ns ((s.list b).filter fun n => decide (n ∉ ns))) b.isLt }

/-- The slots ns are damaged records of board b's list, which holds its slots once and agrees with the outstanding count. -/
structure State.PurgeList (s : State) (b : Bd) (ns : List Nat) : Prop where
  nodup : (s.list b).Nodup
  fresh : ns.Nodup
  listed : ∀ n ∈ ns, n ∈ s.list b
  damaged : ∀ n ∈ ns, ∃ p parity, s.slot n = some (.damaged b p parity)
  outstanding : (s.board b).outstanding = (s.list b).length

theorem purged_slot (s : State) (b : Bd) (ns : List Nat) (k : Nat) : (s.purged b ns).slot k = if k ∈ ns then none else s.slot k := by
  have h : (s.purged b ns).slot k = if decide (k ∉ ns) = true then s.slot k else none :=
    mapFind_filter_number (fun j => decide (j ∉ ns)) k s.slots
  by_cases hk : k ∈ ns <;> simpa [hk] using h

theorem purged_list (s : State) (b c : Bd) (ns : List Nat) :
    (s.purged b ns).list c = if c = b then (s.list b).filter fun n => decide (n ∉ ns) else s.list c :=
  s.list_setList b c _

theorem purged_board (s : State) (b c : Bd) (ns : List Nat) :
    (s.purged b ns).board c = if c = b then (s.board b).purged ns ((s.list b).filter fun n => decide (n ∉ ns)) else s.board c :=
  s.board_modifyBoard b c fun x => x.purged ns _

theorem purged_nil {s : State} {b : Bd} (h : s.PurgeList b []) : s.purged b [] = s := by
  have hboard : (s.board b).purged [] (s.list b) = s.board b := by simp [Board.purged, ← h.outstanding]
  simp only [State.purged, State.armedWithout, List.not_mem_nil, not_false_eq_true, decide_true, List.filter_true, hboard]
  simp [State.list, State.board]

theorem retire_of_purgeList {s : State} {b : Bd} {n : Nat} {ns : List Nat} (h : s.PurgeList b (n :: ns)) : s.retire n = s.purged b [n] := by
  obtain ⟨p, parity, hs⟩ := h.damaged n List.mem_cons_self
  have hmem := h.listed n List.mem_cons_self
  have herase : (s.list b).erase n = (s.list b).filter fun k => decide (k ∉ [n]) := by
    rw [h.nodup.erase_eq_filter]
    exact List.filter_congr fun k _ => by simp [bne, beq_eq_decide]
  have hlength : ((s.list b).erase n).length = (s.board b).outstanding - 1 := by
    rw [List.length_erase_of_mem hmem, h.outstanding]
  rw [retire_damaged_eq s n b p parity hs, leaveList_any, freeSlot_eq]
  unfold State.purged
  rw [← herase]
  congr 1
  case e_slots => simp [mapRemove, bne, beq_eq_decide]
  case e_tableHighArmed =>
    show (s.tableHighArmed || decide (s.occupancy - 1 + 256 < s.highMark)) = _
    rw [armed_eq_ite]
    simp [State.armedWithout]
  case e_boards =>
    have hempty : (s.list b).erase n = [] ↔ (s.board b).outstanding - 1 = 0 := by
      rw [← hlength, List.length_eq_zero_iff]
    simp only [State.modifyBoard, State.setList_reads, Board.purged, hlength]
    congr 1
    by_cases he : (s.list b).erase n = []
    · simp [he, hempty.1 he]
    · simp [he, mt hempty.2 he]

theorem State.PurgeList.tail {s : State} {b : Bd} {n : Nat} {ns : List Nat} (h : s.PurgeList b (n :: ns)) :
    (s.purged b [n]).PurgeList b ns := by
  obtain ⟨hfresh, hnodup⟩ := List.nodup_cons.1 h.fresh
  have hne : ∀ k ∈ ns, k ≠ n := fun k hk hkn => hfresh (hkn ▸ hk)
  constructor
  case nodup => simpa [purged_list] using h.nodup.filter _
  case fresh => exact hnodup
  case listed => exact fun k hk => by simpa [purged_list, hne k hk] using h.listed k (List.mem_cons_of_mem n hk)
  case damaged => exact fun k hk => by simpa [purged_slot, hne k hk] using h.damaged k (List.mem_cons_of_mem n hk)
  case outstanding => simp [purged_board, purged_list, Board.purged]

theorem board_purged_purged (x : Board) (n : Nat) {ns left later : List Nat} (hleft : ns ≠ [] → left ≠ []) (hsame : ns = [] → later = left) :
    (x.purged [n] left).purged ns later = x.purged (n :: ns) later := by
  by_cases hns : ns = []
  · simp [hns, hsame hns, Board.purged]
  · have hlength : x.damaged - (ns.length + 1) = x.damaged - 1 - ns.length := by omega
    simp [hns, hleft hns, hlength, Board.purged]

theorem purged_purged {s : State} {b : Bd} {n : Nat} {ns : List Nat} (h : s.PurgeList b (n :: ns)) :
    (s.purged b [n]).purged b ns = s.purged b (n :: ns) := by
  have hleft : ((s.list b).filter fun k => decide (k ∉ [n])).filter (fun k => decide (k ∉ ns)) = (s.list b).filter fun k => decide (k ∉ n :: ns) := by
    rw [List.filter_filter]
    exact List.filter_congr fun k _ => by simp [Bool.and_comm]
  have hkeeps : ns ≠ [] → ((s.list b).filter fun k => decide (k ∉ [n])) ≠ [] := fun hns hnil => by
    obtain ⟨k, hk⟩ := List.exists_mem_of_ne_nil ns hns
    have hlisted := h.tail.listed k hk
    rw [purged_list, if_pos rfl, hnil] at hlisted
    exact absurd hlisted List.not_mem_nil
  rw [State.purged, purged_list, if_pos rfl, purged_board, if_pos rfl, hleft]
  unfold State.purged
  congr 1
  case e_slots => simp [List.filter_filter, Bool.and_comm]
  case e_free => simp
  case e_occupancy => simp [Nat.sub_sub, Nat.add_comm]
  case e_tableHighArmed => exact armedWithout_cons s n ns
  case e_lists => simp
  case e_boards =>
    simp only [Vector.set_set]
    rw [board_purged_purged _ n hkeeps fun hns => by rw [hns]]

/-- Damaged records of a list freed one after another. -/
theorem retireAll_of_purgeList {s : State} {b : Bd} {ns : List Nat} (h : s.PurgeList b ns) : s.retireAll ns = s.purged b ns := by
  induction ns generalizing s with
  | nil => exact (purged_nil h).symm
  | cons n ns ih =>
    rw [State.retireAll, List.foldl_cons, retire_of_purgeList h, ← purged_purged h]
    exact ih h.tail

/-! ## Unattributed damaged slots freed -/

/-- The slots ns of the unattributed set freed, the set rest left. -/
def State.purgedUnattributed (s : State) (ns rest : List Nat) : State :=
  { s with
    slots := s.slots.filter fun e => decide (e.1 ∉ ns)
    free := s.free ++ ns
    unattributed := rest
    occupancy := s.occupancy - ns.length
    tableHighArmed := s.armedWithout ns }

theorem purgedUnattributed_slot (s : State) (ns rest : List Nat) (k : Nat) :
    (s.purgedUnattributed ns rest).slot k = if k ∈ ns then none else s.slot k := by
  have h : (s.purgedUnattributed ns rest).slot k = if decide (k ∉ ns) = true then s.slot k else none :=
    mapFind_filter_number (fun j => decide (j ∉ ns)) k s.slots
  by_cases hk : k ∈ ns <;> simpa [hk] using h

theorem retire_unattributed {s : State} {n : Nat} {rest : List Nat} (hset : s.unattributed = n :: rest) (hs : s.slot n = some .unattributed) :
    s.retire n = s.purgedUnattributed [n] rest := by
  rw [retire_unattributed_eq s n hs, freeSlot_eq]
  unfold State.purgedUnattributed
  congr 1
  case e_slots => simp [mapRemove, bne, beq_eq_decide]
  case e_unattributed => simp [hset]
  case e_tableHighArmed =>
    show (s.tableHighArmed || decide (s.occupancy - 1 + 256 < s.highMark)) = _
    rw [armed_eq_ite]
    simp [State.armedWithout]

theorem retireAll_unattributed {s : State} {ns : List Nat} (hset : s.unattributed = ns) (hnodup : ns.Nodup)
    (hs : ∀ n ∈ ns, s.slot n = some .unattributed) : s.retireAll ns = s.purgedUnattributed ns [] := by
  induction ns generalizing s with
  | nil =>
    have hsame : s = { s with unattributed := [] } := by rw [← hset]
    simp only [State.purgedUnattributed, State.armedWithout, List.not_mem_nil, not_false_eq_true, decide_true, List.filter_true]
    simpa [State.retireAll] using hsame
  | cons n ns ih =>
    obtain ⟨hfresh, hnodup⟩ := List.nodup_cons.1 hnodup
    have hslots : ∀ k ∈ ns, (s.purgedUnattributed [n] ns).slot k = some .unattributed := fun k hk => by
      have hkn : k ∉ [n] := fun h => hfresh (List.mem_singleton.1 h ▸ hk)
      rw [purgedUnattributed_slot, if_neg hkn, hs k (List.mem_cons_of_mem n hk)]
    have hstep : s.retireAll (n :: ns) = (s.purgedUnattributed [n] ns).retireAll ns := by
      rw [State.retireAll, List.foldl_cons, retire_unattributed hset (hs n List.mem_cons_self)]
      rfl
    rw [hstep, ih rfl hnodup hslots]
    unfold State.purgedUnattributed
    congr 1
    case e_slots => simp [List.filter_filter, Bool.and_comm]
    case e_free => simp
    case e_occupancy => simp [Nat.sub_sub, Nat.add_comm]
    case e_tableHighArmed => exact armedWithout_cons s n ns

/-! ## PURGE served (R129) -/

theorem damagedOf_purgeList {s : State} (h : s.TableWf) (b : Bd) : s.PurgeList b (s.damagedOf b) := by
  obtain ⟨hnodup, hlinked, hout, -⟩ := h.2.2.2 b
  refine ⟨hnodup, hnodup.filter _, fun n hn => (List.mem_filter.1 hn).1, fun n hn => ?_, hout⟩
  obtain ⟨hmem, hdamaged⟩ := List.mem_filter.1 hn
  rcases linkedTo_cases ((hlinked n).1 hmem) with ⟨st, p, parity, hs⟩ | ⟨p, parity, hs⟩
  · simp [State.isDamagedSlot, hs, Slot.isDamaged] at hdamaged
  · exact ⟨p, parity, hs⟩

/-- What is left of a list without its damaged records are the others. -/
theorem filter_not_mem_damagedOf (s : State) (b : Bd) :
    ((s.list b).filter fun n => decide (n ∉ s.damagedOf b)) = (s.list b).filter fun n => !s.isDamagedSlot n :=
  List.filter_congr fun n hn => by
    cases hd : s.isDamagedSlot n <;> simp [State.damagedOf, List.mem_filter, hn, hd]

theorem purgeSound_of_tableWf {s : State} (h : s.TableWf) (b : Bd) : s.purgeSound b = true := by
  obtain ⟨-, hlinked, hout, -⟩ := h.2.2.2 b
  have hwalk : (s.list b).all (s.linkedTo b) = true := List.all_eq_true.2 fun n hn => (hlinked n).1 hn
  have hcount : s.countAgrees b = true := by simp [State.countAgrees, hout]
  rw [State.purgeSound, hwalk, hcount, Bool.or_true, Bool.and_true]

theorem servePurge_board {t : State} {tag board : Byte} {b : Bd} (hh : t.halted = false) (hb : board.toNat = b.val) :
    servePurge tag board t = t.purgeBoard tag b := by
  have hboard : board ≠ 255 := by
    rintro rfl
    have hb' : b.val = 255 := hb.symm
    omega
  simp only [servePurge, hh, if_neg hboard, (toBd_some board b).2 hb, Bool.false_eq_true, if_false]

/-- Settles O33: the damaged records of a sound list are freed as one batch, and the unattributed set as another. -/
theorem purgeFreesDamaged : Obligations.PurgeFreesDamaged := by
  intro s tag hr hh htable armed
  constructor
  · intro board b hb i x gone kept state
    have hlist := damagedOf_purgeList htable b
    have hkept : ((s.list b).filter fun n => decide (n ∉ gone)) = kept := filter_not_mem_damagedOf s b
    have htable' : (s.takeOff i).TableWf := by
      rw [takeOff_eq]
      exact htable
    have hgone : (s.takeOff i).damagedOf b = gone := by
      rw [takeOff_eq]
      rfl
    have hpurged : (s.takeOff i).retireAll gone = { s.purged b gone with buffer := (s.takeOff i).buffer, ready := (s.takeOff i).ready } := by
      rw [← hgone, retireAll_of_purgeList (damagedOf_purgeList htable' b), hgone, takeOff_eq]
      rfl
    have hdamaged : x.damaged - gone.length = 0 := by
      have hcount := (htable.2.2.2 b).2.2.2.1
      simp [x, gone, hcount]
    have hboard : (s.purged b gone).board b =
        { x with
          state := state, outstanding := kept.length, damaged := 0
          stallExpiry := if gone ≠ [] ∧ kept = [] then none else x.stallExpiry } := by
      have hheld : x.state = .silent → kept = [] → gone ≠ [] := fun hsilent hnil hnone => by
        have hall : s.list b = kept := by simpa [hnone] using hkept
        exact (htable.2.2.2 b).2.2.2.2.2 hsilent (hall.trans hnil)
      have hstate : (if gone ≠ [] ∧ kept = [] ∧ x.state = .silent then BoardState.drained else x.state) = state :=
        if_congr (by tauto) rfl rfl
      rw [purged_board, if_pos rfl, hkept]
      show x.purged gone kept = _
      rw [Board.purged, hdamaged, hstate]
    have hserve : serve i (s.takeOff i) = ({ s.purged b gone with buffer := (s.takeOff i).buffer, ready := (s.takeOff i).ready } : State).answer
        0x0C tag .accepted (be 2 gone.length ++ [state.byte] ++ be 2 kept.length ++ [0, 0]) := by
      refine (servePurge_board (by simpa using hh) hb).trans ?_
      have hread : ({ s.purged b gone with buffer := (s.takeOff i).buffer, ready := (s.takeOff i).ready } : State).board b
        = (s.purged b gone).board b := rfl
      rw [State.purgeBoard, purgeSound_of_tableWf htable' b, if_neg nofun, hgone, hpurged]
      have hnone : be 2 0 = [0, 0] := by decide
      dsimp only
      rw [hread, hboard, hnone]
    refine ⟨_, exec_served rfl hr hserve, ?answers, ?list, ?lists, ?free, ?occupancy, ?armed, ?slots, ?board, ?boards, ?frame⟩
    case answers => exact ⟨rfl, rfl, rfl, rfl, rfl⟩
    case list => exact ((purged_list s b b gone).trans (if_pos rfl)).trans hkept
    case lists => exact fun c hc => (purged_list s b c gone).trans (if_neg hc)
    case free => rfl
    case occupancy => rfl
    case armed => rfl
    case slots => exact purged_slot s b gone
    case board => exact hboard
    case boards => exact fun c hc => (purged_board s b c gone).trans (if_neg hc)
    case frame => rfl
  · intro i gone
    obtain ⟨-, -, hsorted, hset, -⟩ := htable.2.2.1
    have hnodup : gone.Nodup := hsorted.imp fun h => Nat.ne_of_lt h
    have hserve : serve i (s.takeOff i) = ({ s.purgedUnattributed gone [] with buffer := (s.takeOff i).buffer, ready := (s.takeOff i).ready } : State).answer
        0x0C tag .accepted (be 2 gone.length ++ [255, 0, 0, 0, 0]) := by
      have hgone : (s.takeOff i).unattributed = gone := by simp [gone]
      have hserve : servePurge tag 255 (s.takeOff i) = (s.takeOff i).purgeUnattributed tag := by simp [servePurge, hh]
      have hpurged : (s.takeOff i).retireAll gone
          = { s.purgedUnattributed gone [] with buffer := (s.takeOff i).buffer, ready := (s.takeOff i).ready } := by
        rw [retireAll_unattributed hgone hnodup fun n hn => by simpa using (hset n).1 hn, takeOff_eq]
        rfl
      refine hserve.trans ?_
      rw [State.purgeUnattributed, hgone, hpurged]
      simp [State.purgedUnattributed, be]
    refine ⟨_, exec_served rfl hr hserve, ?answers, ?unattributed, ?free, ?occupancy, ?armed, ?slots, ?frame⟩
    case answers => exact ⟨rfl, rfl, rfl, rfl, rfl⟩
    case unattributed => rfl
    case free => rfl
    case occupancy => rfl
    case armed => rfl
    case slots => exact purgedUnattributed_slot s gone []
    case frame => rfl

end Sys2Proof.Machine

/-! SUPPORT. The refusals of TAKE and PURGE, and custody lists that fail their structure tests (R126, R129, R152). -/

namespace Sys2Proof.Machine

section Handover

variable {t : State} {tag board n : Byte} {b : Bd}

theorem inRange_iff (k lo hi : Nat) : inRange k lo hi = true ↔ lo ≤ k ∧ k ≤ hi := by simp [inRange]

theorem serveTake_count_range (hh : t.halted = false) (hb : board.toNat = b.val) (hn : n.toNat = 0 ∨ 8 < n.toNat) :
    serveTake tag board n t = t.answer 0x0B tag .outOfRange [1] := by
  have hrange : inRange n.toNat 1 8 = false := Bool.eq_false_iff.2 fun h => by
    obtain ⟨hlow, hhigh⟩ := (inRange_iff _ _ _).1 h
    omega
  simp [serveTake, hh, (toBd_some board b).2 hb, hrange, State.outOfRange]

theorem serveTake_boardState (hh : t.halted = false) (hb : board.toNat = b.val) (h1 : 1 ≤ n.toNat) (h8 : n.toNat ≤ 8)
    (hst : (t.board b).state ≠ .silent) : serveTake tag board n t = t.refuseBoardState 0x0B tag b := by
  simp [serveTake, hh, (toBd_some board b).2 hb, (inRange_iff _ _ _).2 ⟨h1, h8⟩, hst]

theorem serveTake_unsound (hh : t.halted = false) (hb : board.toNat = b.val) (h1 : 1 ≤ n.toNat) (h8 : n.toNat ≤ 8)
    (hst : (t.board b).state = .silent) (hsound : t.takeSound b (min n.toNat (t.board b).outstanding) = false) :
    serveTake tag board n t = (t.enterHalted (.custodyList b)).answer 0x0B tag .halted [] := by
  simp [serveTake, hh, (toBd_some board b).2 hb, (inRange_iff _ _ _).2 ⟨h1, h8⟩, hst, hsound]

theorem takeSound_eq_false {m : Nat}
    (h : (∃ k ∈ (t.list b).take m, t.linkedTo b k = false) ∨ (t.list b).length ≤ m ∧ (t.list b).length ≠ (t.board b).outstanding) :
    t.takeSound b m = false := by
  rw [State.takeSound]
  rcases h with ⟨k, hk, hlink⟩ | ⟨hshort, hcount⟩
  · have hwalk : ((t.list b).take m).all (t.linkedTo b) = false := List.all_eq_false.2 ⟨k, hk, by simp [hlink]⟩
    rw [hwalk, Bool.false_and]
  · simp [State.countAgrees, hcount, Nat.not_lt.2 hshort]

theorem purgeSound_eq_false
    (h : (∃ k ∈ t.list b, t.linkedTo b k = false)
      ∨ t.list b ≠ [] ∧ (∀ k ∈ t.list b, t.isDamagedSlot k = true) ∧ (t.list b).length ≠ (t.board b).outstanding) :
    t.purgeSound b = false := by
  rw [State.purgeSound]
  rcases h with ⟨k, hk, hlink⟩ | ⟨hnonempty, hall, hcount⟩
  · have hwalk : (t.list b).all (t.linkedTo b) = false := List.all_eq_false.2 ⟨k, hk, by simp [hlink]⟩
    rw [hwalk, Bool.false_and]
  · have hdamaged : t.damagedOf b = t.list b := List.filter_eq_self.2 hall
    simp [hdamaged, hnonempty, State.countAgrees, hcount]

end Handover

/-- A frame's taking leaves what the structure tests read. -/
theorem takeOff_linkedTo (s : State) (i : Instr) (b : Bd) (n : Nat) : (s.takeOff i).linkedTo b n = s.linkedTo b n := by
  simp only [State.linkedTo, takeOff_reads]

theorem takeOff_isDamagedSlot (s : State) (i : Instr) (n : Nat) : (s.takeOff i).isDamagedSlot n = s.isDamagedSlot n := by
  simp only [State.isDamagedSlot, takeOff_reads]

/-- Settles O34: each check fails in the state without the request's frame just as it fails in the state before. -/
theorem handoverRefused : Obligations.HandoverRefused := by
  intro s tag board n hr i j
  have hhalted (x : Instr) (hh : s.halted = false) : (s.takeOff x).halted = false := by simpa using hh
  refine ⟨fun hh => ?halted, fun hh hb => ?takeRange, fun hh hb h255 => ?purgeRange, fun b hh hb => ?checked⟩
  case halted =>
    refine ⟨exec_answered rfl hr ?_, exec_answered rfl hr ?_⟩
    · simp [serve, i, serveTake, hh]
    · simp [serve, j, servePurge, hh]
  case takeRange =>
    refine exec_answered rfl hr ?_
    simp [serve, i, serveTake, hh, (toBd_none board).2 hb, State.outOfRange]
  case purgeRange =>
    refine exec_answered rfl hr ?_
    have h255' : board ≠ 255#8 := h255
    simp [serve, j, servePurge, hh, h255', (toBd_none board).2 hb, State.outOfRange]
  case checked =>
    intro halt m
    refine ⟨fun hn => ?count, fun h1 h8 hst => ?boardState, fun h1 h8 hst hfail => ?takeFails, fun hfail => ?purgeFails⟩
    case count => exact exec_answered rfl hr (serveTake_count_range (hhalted i hh) hb hn)
    case boardState =>
      have hserve := serveTake_boardState (t := s.takeOff i) (tag := tag) (hhalted i hh) hb h1 h8 (by simpa using hst)
      rw [State.refuseBoardState, (takeOff_reads s i).1] at hserve
      exact exec_answered rfl hr hserve
    case takeFails =>
      have hsound : (s.takeOff i).takeSound b (min n.toNat ((s.takeOff i).board b).outstanding) = false :=
        takeSound_eq_false (by simpa only [takeOff_reads, takeOff_linkedTo] using hfail)
      exact exec_served rfl hr (serveTake_unsound (hhalted i hh) hb h1 h8 (by simpa using hst) hsound)
    case purgeFails =>
      have hsound : (s.takeOff j).purgeSound b = false := 
        purgeSound_eq_false (by simpa only [takeOff_reads, takeOff_linkedTo, takeOff_isDamagedSlot] using hfail)
      have hserve : serve j (s.takeOff j) = ((s.takeOff j).enterHalted (.custodyList b)).answer 0x0C tag .halted [] := by
        refine (servePurge_board (hhalted j hh) hb).trans ?_
        rw [State.purgeBoard, hsound]
        rfl
      exact exec_served rfl hr hserve

end Sys2Proof.Machine

/-! SUPPORT. SETGROUP: the checks of each group as a sequence of tests, the refusals, and the writes (R17, R19, R47, R61, R63, R90, R95,
R100, R131, R148). -/

namespace Sys2Proof.Machine

/-! ## Each group's checks in order -/

theorem checkTimebase_eq (f : Timebase) :
    checkTimebase f = if 3 < f.pre.toNat then some 0 else if 3 < f.div.toNat then some 1 else if 5 < f.vpt.toNat then some 2 else none := by
  simp only [checkTimebase, firstFailure, firstOffending, inRange, List.find?]
  grind

theorem checkProfile_eq (f : Profile) :
    checkProfile f =
      if f.authFloor.toNat = 0 then some 0 else if f.authCeil.toNat = 0 then some 1 else if f.k.toNat < 4 then some 2
      else if f.settle.toNat = 0 then some 3 else if f.authCeil.toNat < f.authFloor.toNat then some 1 else none := by
  have hfloor : f.authFloor.toNat < 2 ^ 16 := f.authFloor.isLt
  have hceil : f.authCeil.toNat < 2 ^ 16 := f.authCeil.isLt
  have hk : f.k.toNat < 2 ^ 8 := f.k.isLt
  have hsettle : f.settle.toNat < 2 ^ 24 := f.settle.isLt
  simp only [checkProfile, firstFailure, firstOffending, inRange, List.find?]
  grind

theorem checkLatency_eq (f : Latency) :
    checkLatency f = if f.seedLat.toNat = 0 then some 0 else if f.gain.toNat = 0 ∨ 6 < f.gain.toNat then some 1 else none := by
  have hseed : f.seedLat.toNat < 2 ^ 16 := f.seedLat.isLt
  simp only [checkLatency, firstFailure, firstOffending, inRange, List.find?]
  grind

theorem checkWeights_eq (f : Weights) :
    checkWeights f =
      if 1023 < f.wAuth.toNat then some 0 else if 1023 < f.wSettle.toNat then some 1 else if 1023 < f.wStall.toNat then some 2
      else if 1023 < f.wLost.toNat then some 3 else if 1023 < f.wRacing.toNat then some 4 else if 1023 < f.wXcheck.toNat then some 5
      else if f = ⟨0, 0, 0, 0, 0, 0⟩ then some 0 else none := by
  simp only [checkWeights, firstFailure, firstOffending, inRange, List.find?]
  grind

theorem checkThresholds_eq (f : Thresholds) :
    checkThresholds f =
      if f.alert.toNat < 2 ∨ 4094 < f.alert.toNat then some 0 else if f.hysteresis.toNat = 0 ∨ 4093 < f.hysteresis.toNat then some 1
      else if f.verdict.toNat < 3 ∨ 4095 < f.verdict.toNat then some 2 else if f.creditShift.toNat = 0 ∨ 8 < f.creditShift.toNat then some 3
      else if f.alert.toNat ≤ f.hysteresis.toNat then some 1 else if f.verdict.toNat ≤ f.alert.toNat then some 2 else none := by
  simp only [checkThresholds, firstFailure, firstOffending, inRange, List.find?]
  grind

theorem checkHeartbeat_eq (f : Heartbeat) :
    checkHeartbeat f =
      if f.hbMin.toNat = 0 then some 0 else if f.hbMax.toNat = 0 then some 1 else if f.stallLimit.toNat = 0 then some 2
      else if f.grace.toNat = 0 then some 3 else if 3 < f.gdiv.toNat then some 4
      else if f.hbMax.toNat ≤ f.hbMin.toNat then some 1 else none := by
  have hmin : f.hbMin.toNat < 2 ^ 16 := f.hbMin.isLt
  have hmax : f.hbMax.toNat < 2 ^ 16 := f.hbMax.isLt
  have hstall : f.stallLimit.toNat < 2 ^ 24 := f.stallLimit.isLt
  have hgrace : f.grace.toNat < 2 ^ 8 := f.grace.isLt
  simp only [checkHeartbeat, firstFailure, firstOffending, inRange, List.find?]
  grind

theorem checkGuard_eq (down : Nat) (f : Guard) :
    checkGuard down f =
      if f.maxDown.toNat = 0 ∨ 16 < f.maxDown.toNat then some 0 else if 100 < f.ccPct.toNat then some 1
      else if 1023 < f.xchkTol.toNat then some 2 else if f.maxDown.toNat < down then some 0 else none := by
  simp only [checkGuard, firstFailure, firstOffending, inRange, List.find?]
  grind

theorem checkTable_eq (f : TableSettings) :
    checkTable f =
      if f.quota.toNat = 0 ∨ 8192 < f.quota.toNat then some 0
      else if f.highMark.toNat < 257 ∨ 8192 < f.highMark.toNat then some 1 else none := by
  simp only [checkTable, firstFailure, firstOffending, inRange, List.find?]
  grind

theorem checkMasks_eq (f : Masks) :
    checkMasks f = if 4095 < f.noticeMask.toNat then some 0 else if 31 < f.faultMask.toNat then some 1 else none := by
  simp only [checkMasks, firstFailure, firstOffending, inRange, List.find?]
  grind

end Sys2Proof.Machine

/-! SUPPORT. SETGROUP refused: the first check that fails names the field (R19, R47, R61, R63, R90, R95, R100, R131, R148). -/

namespace Sys2Proof.Machine

theorem toNat_eq_zero {w : Nat} (x : BitVec w) : x.toNat = 0 ↔ x = 0#w := by
  rw [← BitVec.toNat_inj, BitVec.toNat_zero]

/-- A SETGROUP whose checks fail at field k is refused with that index, and changes nothing. -/
theorem exec_setgroup_refused {s : State} {i : Instr} {tag : Byte} {number k : Nat} {check : Option Nat} {write : State → State}
    (hi : (requestParts i).isSome = true) (hr : s.resetHeld = false)
    (hserve : serve i (s.takeOff i) = (s.takeOff i).setgroup tag number check write) (hcheck : check = some k) :
    exec i s = .next (answered i s 0x10 tag .outOfRange [BitVec.ofNat 8 k]) := by
  rw [hcheck, setgroup_refused] at hserve
  exact exec_answered hi hr hserve

/-- Settles O37: each clause is one branch of its group's checks. -/
theorem setgroupRefused : Obligations.SetgroupRefused := by
  intro s tag hr refused
  refine ⟨fun f => ?timebase, fun c f => ?profile, fun f => ?latency, fun f => ?weights, fun f => ?thresholds, fun f => ?heartbeat,
    fun f => ?guard, fun f => ?table, fun f => ?masks⟩
  case timebase =>
    have refuse {k : Nat} (h : checkTimebase f = some k) := exec_setgroup_refused (i := .setgroupTimebase tag f) rfl hr rfl h
    rw [checkTimebase_eq] at refuse
    exact ⟨fun h0 => refuse (k := 0) (by grind), fun h0 h1 => refuse (k := 1) (by grind), fun h0 h1 h2 => refuse (k := 2) (by grind)⟩
  case profile =>
    have refuse {k : Nat} (h : checkProfile f = some k) := exec_setgroup_refused (i := .setgroupProfile tag c f) rfl hr rfl h
    simp only [checkProfile_eq, toNat_eq_zero] at refuse
    refine ⟨fun h0 => refuse (k := 0) (by grind), fun h0 h1 => refuse (k := 1) (by grind), fun h0 h1 h2 => refuse (k := 2) (by grind),
      fun h0 h1 h2 h3 => refuse (k := 3) (by grind), fun hless h1 h2 h3 => refuse (k := 1) ?_⟩
    have h0 : f.authFloor ≠ 0#16 := fun h => by simp [h] at hless
    grind
  case latency =>
    have refuse {k : Nat} (h : checkLatency f = some k) := exec_setgroup_refused (i := .setgroupLatency tag f) rfl hr rfl h
    simp only [checkLatency_eq, toNat_eq_zero] at refuse
    exact ⟨fun h0 => refuse (k := 0) (by grind), fun h0 h1 => refuse (k := 1) (by grind)⟩
  case weights =>
    have refuse {k : Nat} (h : checkWeights f = some k) := exec_setgroup_refused (i := .setgroupWeights tag f) rfl hr rfl h
    rw [checkWeights_eq] at refuse
    refine ⟨fun h0 => refuse (k := 0) (by grind), fun hzero => refuse (k := 0) (by simp [hzero]), fun h0 h1 => refuse (k := 1) (by grind),
      fun h0 h1 h2 => refuse (k := 2) (by grind), fun h0 h1 h2 h3 => refuse (k := 3) (by grind),
      fun h0 h1 h2 h3 h4 => refuse (k := 4) (by grind), fun h0 h1 h2 h3 h4 h5 => refuse (k := 5) (by grind)⟩
  case thresholds =>
    have refuse {k : Nat} (h : checkThresholds f = some k) := exec_setgroup_refused (i := .setgroupThresholds tag f) rfl hr rfl h
    simp only [checkThresholds_eq, toNat_eq_zero] at refuse
    have hlow {w : Nat} {x : BitVec w} (h : 1 ≤ x.toNat) : x ≠ 0#w := fun h0 => by simp [h0] at h
    refine ⟨fun ha => refuse (k := 0) (by grind), fun ha1 ha2 hh => refuse (k := 1) (by grind),
      fun ha1 ha2 hh1 hh2 => ⟨fun hv => refuse (k := 2) ?_, fun hv1 hv2 hd => refuse (k := 3) ?_⟩,
      fun ha1 hle hh2 hv1 hv2 hd1 hd2 => refuse (k := 1) ?_, fun ha2 hh1 hlt hv1 hle hd1 hd2 => refuse (k := 2) ?_⟩
    · have := hlow hh1
      grind
    · have := hlow hh1
      grind
    · have hne : f.hysteresis ≠ 0#16 := hlow (by omega)
      have := hlow hd1
      grind
    · have := hlow hh1
      have := hlow hd1
      grind
  case heartbeat =>
    have refuse {k : Nat} (h : checkHeartbeat f = some k) := exec_setgroup_refused (i := .setgroupHeartbeat tag f) rfl hr rfl h
    simp only [checkHeartbeat_eq, toNat_eq_zero] at refuse
    refine ⟨fun h0 => refuse (k := 0) (by grind), fun h0 h1 => refuse (k := 1) (by grind), fun h0 h1 h2 => refuse (k := 2) (by grind),
      fun h0 h1 h2 h3 => refuse (k := 3) (by grind), fun h0 h1 h2 h3 h4 => refuse (k := 4) (by grind),
      fun h1 hle h2 h3 h4 => refuse (k := 1) ?_⟩
    have hmin : f.hbMin ≠ 0 := fun h => by
      simp [h] at hle
      omega
    have hmax : f.hbMax ≠ 0 := fun h => by simp [h] at h1
    grind
  case guard =>
    have hdown : (s.takeOff (.setgroupGuard tag f)).down = s.down := by simp
    have refuse {k : Nat} (h : checkGuard s.down f = some k) := exec_setgroup_refused (i := .setgroupGuard tag f) (tag := tag) (number := 9)
      (write := writeGuard f) rfl hr (by rw [← hdown]; rfl) h
    rw [checkGuard_eq] at refuse
    refine ⟨fun h0 => refuse (k := 0) ?_, fun h1 h16 hp => refuse (k := 1) (by grind), fun h1 h16 hp hx => refuse (k := 2) (by grind),
      fun h1 h16 hp hx hd => refuse (k := 0) (by grind)⟩
    exact if_pos (h0.imp_left fun h => by rw [h]; rfl)
  case table =>
    have refuse {k : Nat} (h : checkTable f = some k) := exec_setgroup_refused (i := .setgroupTable tag f) rfl hr rfl h
    rw [checkTable_eq] at refuse
    exact ⟨fun h0 => refuse (k := 0) (if_pos (h0.imp_left fun h => by rw [h]; rfl)), fun h1 hq hm => refuse (k := 1) (by grind)⟩
  case masks =>
    have refuse {k : Nat} (h : checkMasks f = some k) := exec_setgroup_refused (i := .setgroupMasks tag f) rfl hr rfl h
    rw [checkMasks_eq] at refuse
    exact ⟨fun h0 => refuse (k := 0) (by grind), fun h0 h1 => refuse (k := 1) (by grind)⟩

end Sys2Proof.Machine

/-! SUPPORT. SETGROUP accepted: the writes and their effects (R17, R19, R47, R61, R63, R90, R95, R131, R148), and the thresholds' re-evaluation of
the boards (R100). -/

namespace Sys2Proof.Machine

/-- A SETGROUP whose checks pass writes its group and answers with its number. -/
theorem exec_setgroup_accepted {s u : State} {i : Instr} {tag : Byte} {number : Nat} {check : Option Nat} {write : State → State}
    (hi : (requestParts i).isSome = true) (hr : s.resetHeld = false)
    (hserve : serve i (s.takeOff i) = (s.takeOff i).setgroup tag number check write) (hcheck : check = none)
    (hwrite : write (s.takeOff i) = u) :
    exec i s = .next (u.answer 0x10 tag .accepted [BitVec.ofNat 8 number, 1]).driveLines := by
  rw [hcheck, setgroup_accepted, hwrite] at hserve
  exact exec_served hi hr hserve

/-- Settles O35: the checks of each group pass, and its write is read in the state without the request's frame. -/
theorem groupsWritten : Obligations.GroupsWritten := by
  refine ⟨fun s tag hr => ?plain, fun s tag hr => ?effects, fun s tag f hr h1 h16 hp hx hd => ?guard⟩
  case plain =>
    intro done
    have written {i : Instr} {number : Nat} {u : State} {check : Option Nat} {write : State → State}
        (hi : (requestParts i).isSome = true) (hserve : serve i (s.takeOff i) = (s.takeOff i).setgroup tag number check write)
        (hcheck : check = none) (hwrite : write (s.takeOff i) = u.afterSetgroup) : exec i s = .next (done u (BitVec.ofNat 8 number)) :=
      exec_setgroup_accepted hi hr hserve hcheck hwrite
    refine ⟨fun f hpre hdiv hvpt => ?timebase, fun c f hfloor hceil hk hsettle => ?profile, fun f hseed hgain hgain6 => ?latency,
      fun f hmin hmax hstall hgrace hgdiv => ?heartbeat⟩
    case timebase =>
      refine written rfl rfl ?_ ?_
      · rw [checkTimebase_eq]
        grind
      · rw [takeOff_eq]
        rfl
    case profile =>
      refine written rfl rfl ?_ ?_
      · rw [checkProfile_eq]
        grind
      · rw [takeOff_eq]
        rfl
    case latency =>
      refine written rfl rfl ?_ ?_
      · rw [checkLatency_eq]
        grind
      · rw [takeOff_eq]
        rfl
    case heartbeat =>
      refine written rfl rfl ?_ ?_
      · rw [checkHeartbeat_eq]
        grind
      · rw [takeOff_eq]
        rfl
  case effects =>
    intro done
    have written {i : Instr} {number : Nat} {u : State} {check : Option Nat} {write : State → State}
        (hi : (requestParts i).isSome = true) (hserve : serve i (s.takeOff i) = (s.takeOff i).setgroup tag number check write)
        (hcheck : check = none) (hwrite : write (s.takeOff i) = u.afterSetgroup) : exec i s = .next (done u (BitVec.ofNat 8 number)) :=
      exec_setgroup_accepted hi hr hserve hcheck hwrite
    refine ⟨fun f hauth hsettle hstall hlost hracing hxcheck hnonzero => ?weights, fun f hq hq8192 hm hm8192 => ?table,
      fun f hnotice hfault => ?masks⟩
    case weights =>
      refine written rfl rfl ?_ ?_
      · rw [checkWeights_eq]
        grind
      · rw [takeOff_eq]
        rfl
    case table =>
      refine written rfl rfl ?_ ?_
      · rw [checkTable_eq]
        grind
      · rw [takeOff_eq]
        rfl
    case masks =>
      refine written rfl rfl ?_ ?_
      · rw [checkMasks_eq]
        grind
      · rw [takeOff_eq]
        rfl
  case guard =>
    intro i u
    refine exec_setgroup_accepted (number := 9) rfl hr rfl ?_ ?_
    · have hdown : (s.takeOff i).down = s.down := by simp
      rw [hdown, checkGuard_eq]
      grind
    · simp only [u]
      rw [takeOff_eq]
      rfl

/-! ## THRESHOLDS (R100) -/

theorem checkThresholds_of_legal {f : Thresholds} (h : ThresholdsLegal f) : checkThresholds f = none := by
  obtain ⟨ha2, ha, hh, hha, hav, hv, hd, hd8⟩ := h
  rw [checkThresholds_eq]
  grind

theorem becomeDoubtful_eq {s : State} {b : Bd} {item : DoubtItem} (hb : (s.board b).state = .live) :
    s.becomeDoubtful b item = s.afterExit ((State.reevaluateCommon { s with
        boards := s.boards.set b.val { s.board b with state := .doubtful } b.isLt
        doubtful := s.doubtful + 1 }).latchDoubt b item) := by
  rw [State.becomeDoubtful, setBoardState_doubtful hb]

theorem backToLive_eq {s : State} {b : Bd} (hb : (s.board b).state = .doubtful) :
    s.backToLive b = s.afterExit (State.reevaluateCommon { s with
        boards := s.boards.set b.val { s.board b with state := .live } b.isLt
        doubtful := s.doubtful - 1 }) := by
  rw [State.backToLive, setBoardState_live hb]

theorem reevaluateBoard_of_live {s : State} {b : Bd} (hb : (s.board b).state = .live) :
    s.reevaluateBoard b = (s.doubtIfAlerted b .thresholds).requestIfDue b := by
  simp [State.reevaluateBoard, hb]

theorem reevaluateBoard_of_doubtful {s : State} {b : Bd} (hb : (s.board b).state = .doubtful) :
    s.reevaluateBoard b = (s.leavePendingIfBelow b).reevaluateDoubtful b := by
  simp [State.reevaluateBoard, hb]

theorem leavePendingIfBelow_of_not {s : State} {b : Bd} (h : ¬ ((s.board b).pending = true ∧ (s.board b).score < s.levelV)) :
    s.leavePendingIfBelow b = s := if_neg h

/-- Settles O36: the write and the fold over the boards; for one board, the cases of its state and score. -/
theorem thresholdsReevaluateBoards : Obligations.ThresholdsReevaluateBoards := by
  constructor
  · intro s tag f hr hlegal i u v
    have hwrite : writeThresholds f (s.takeOff i) = v.afterSetgroup := by
      simp only [v, u]
      rw [takeOff_eq]
      rfl
    exact exec_setgroup_accepted (number := 7) rfl hr rfl (checkThresholds_of_legal hlegal) hwrite
  · intro s b hlegal x a h v
    obtain ⟨ha2, ha, hh, hha, hav, hv, hd, hd8⟩ := hlegal
    have stays (hhigh : v ≤ x.score) : s.returnsToLive b = false := decide_eq_false fun hback => by
      have hbelow : x.score + h < a := hback.2
      omega
    refine ⟨fun hst => ?other, fun hst hlow => ?liveLow, fun hst hhigh => ?liveHigh, fun hst hpending hhigh => ?pending,
      fun hst hpending hhigh => ?asks, fun hst hlow => ?below⟩
    case other =>
      cases hx : x.state <;> simp_all [Chargeable, State.reevaluateBoard, x]
    case liveLow =>
      have hkeep : s.doubtIfAlerted b .thresholds = s := if_neg fun h => absurd h.2 (Nat.not_le.2 hlow)
      rw [reevaluateBoard_of_live hst, hkeep]
      exact if_neg fun hdue => by
        have hlive : (s.board b).state = .live := hst
        simp [hlive] at hdue
    case liveHigh =>
      intro u counted w y
      have hdoubt : s.doubtIfAlerted b .thresholds = w := by
        rw [State.doubtIfAlerted, if_pos ⟨hst, hhigh⟩, becomeDoubtful_eq hst, afterExit_eq]
      have hlevel : w.levelV = v := by
        rw [← hdoubt, (frame_doubtIfAlerted s b _).levelV]
        rfl
      rw [reevaluateBoard_of_live hst, hdoubt, State.requestIfDue, hlevel]
    case pending =>
      rw [reevaluateBoard_of_doubtful hst, leavePendingIfBelow_of_not fun h => absurd h.2 (Nat.not_lt.2 hhigh), State.reevaluateDoubtful,
        stays hhigh, if_neg Bool.false_ne_true]
      exact if_neg fun hdue => by simp [x, hdue.2.2] at hpending
    case asks =>
      rw [reevaluateBoard_of_doubtful hst, leavePendingIfBelow_of_not fun h => absurd h.2 (Nat.not_lt.2 hhigh), State.reevaluateDoubtful,
        stays hhigh, if_neg Bool.false_ne_true]
      exact if_pos ⟨hst, hhigh, hpending⟩
    case below =>
      intro u w back
      have hleft : s.leavePendingIfBelow b = u := by
        by_cases hpending : x.pending = true
        · rw [State.leavePendingIfBelow, if_pos ⟨hpending, hlow⟩]
          simp only [u, if_pos hpending]
          rfl
        · have hkeep : { x with pending := false } = x := by rw [← Bool.eq_false_iff.2 hpending]
          rw [leavePendingIfBelow_of_not fun h => hpending h.1]
          simp only [u, if_neg hpending, hkeep]
          simp [x, State.board]
      have hboard : u.board b = { x with pending := false } := by simp [u, State.board]
      have hreturns : u.returnsToLive b = decide (x.score + h < a) := by
        rw [State.returnsToLive, hboard]
        simp [hst, State.levelH, State.levelA, u, h, a]
      rw [reevaluateBoard_of_doubtful hst, hleft, State.reevaluateDoubtful, hreturns]
      by_cases hlow' : x.score + h < a
      · have hback : u.backToLive b = u.afterExit back := by
          rw [backToLive_eq (by rw [hboard]; exact hst), hboard]
          simp [back, w, u]
        simp only [hlow', decide_true, if_true]
        rw [hback, afterExit_eq]
      · simp only [hlow', decide_false, Bool.false_eq_true, if_false]
        refine if_neg fun hdue => ?_
        rw [hboard] at hdue
        exact absurd hdue.2.1 (Nat.not_le.2 hlow)

end Sys2Proof.Machine

/-! SUPPORT. The latches' repeats (R142, R143), and the rest of a pin reset. -/

namespace Sys2Proof.Machine

/-- Settles O40: a latch that keeps what it holds, by whether it was set; the others are written so. -/
theorem latchesAbsorbRepeats : Obligations.LatchesAbsorbRepeats := by
  intro s b l r n d g res c item path cause what change
  refine ⟨?doubt, ?verdict, ?withheld, ?halted, ?tableHigh, ?common, ?link, ?heartbeat, ?damage, ?paramFault, ?testDone⟩
  case doubt =>
    dsimp only [State.latchDoubt, State.modifyLatches]
    cases s.latches.doubt[b.val] <;> rfl
  case verdict =>
    dsimp only [State.latchVerdict, State.modifyLatches]
    cases s.latches.verdict[b.val] <;> rfl
  case withheld =>
    dsimp only [State.latchWithheld, State.modifyLatches]
    cases s.latches.withheld[b.val] <;> rfl
  case halted =>
    dsimp only [State.latchHalted, State.modifyLatches]
    cases s.latches.halted <;> rfl
  case tableHigh =>
    dsimp only [State.latchTableHigh, State.modifyLatches]
    cases s.latches.tableHigh <;> rfl
  case common => rfl
  case link => rfl
  case heartbeat => rfl
  case damage => rfl
  case paramFault => rfl
  case testDone => rfl

theorem isSet_clear (r : LatchRef) : Latches.clear.isSet r = false := by
  cases r with
  | verdict b => simp [Latches.isSet, Latches.clear]
  | withheld b => simp [Latches.isSet, Latches.clear]
  | doubt b => simp [Latches.isSet, Latches.clear]
  | heartbeat b => simp [Latches.isSet, Latches.clear]
  | watch u => simp [Latches.isSet, Latches.clear]
  | _ => rfl

/-- Settles O45: the fields of the held state, read one by one. -/
theorem pinResetRest : Obligations.PinResetRest := by
  intro s
  refine ⟨s.pinReset, exec_pinReset s, rfl, rfl, rfl, rfl, rfl, rfl, rfl, rfl, rfl, rfl, rfl, rfl, rfl, rfl, rfl, rfl, rfl, rfl, rfl,
    fun b => ?causes, fun u => ?units, isSet_clear, rfl, rfl, rfl, rfl, rfl, rfl, rfl, rfl, rfl, rfl, fun c => ?profiles, rfl, rfl, rfl, rfl,
    rfl, rfl, rfl, rfl, rfl, rfl⟩
  case causes => exact Vector.getElem_replicate b.isLt
  case units => exact Vector.getElem_replicate u.isLt
  case profiles =>
    have h : ∀ c : Fin 4, (State.held.profile c).valid = true ∧ (State.held.profile c).codeOver = (State.held.profile c).fields
      ∧ (State.held.profile c).fields =
        match c with
        | 0 => ⟨300, 8000, 12, 90000⟩ | 1 => ⟨200, 5000, 12, 20000⟩ | 2 => ⟨400, 10000, 16, 60000⟩
        | 3 => ⟨300, 8000, 12, 180000⟩ := by decide
    exact h c

/-! ## Right after reset -/

theorem reset_tableWf : State.reset.TableWf :=
  tableWf_of_freed ⟨rfl, rfl⟩ rfl (fun c => Vector.getElem_replicate c.isLt) ⟨rfl, rfl⟩ fun c => by
    have hboard : State.reset.board c = Board.reset := Vector.getElem_replicate c.isLt
    rw [hboard]
    exact ⟨rfl, rfl, nofun⟩

theorem reset_cleanWf : State.reset.CleanWf := fun _ _ _ _ _ h => nomatch h

/-- Settles O60: the table by its being free, the others by evaluation. -/
theorem invariantsHoldAtReset : Obligations.InvariantsHoldAtReset := by
  refine ⟨?score, ?estimate, ?verdict, ?timers, ?onTime, reset_tableWf, ?sweep, reset_cleanWf, rfl, ?link, ?pins, ?test⟩
  case score =>
    unfold State.ScoreWf ThresholdsLegal Board.ScoreWf
    decide +kernel
  case estimate =>
    unfold State.EstimateWf
    decide +kernel
  case verdict =>
    unfold State.VerdictWf
    decide +kernel
  case timers =>
    unfold State.TimersWf Board.TimersWf
    decide +kernel
  case onTime =>
    unfold State.OnTimeWf
    decide +kernel
  case sweep =>
    unfold State.SweepWf
    decide +kernel
  case link => exact ⟨trivial, fun _ hf => absurd hf List.not_mem_nil, Nat.zero_le _, fun _ => rfl⟩
  case pins =>
    unfold State.PinsWf
    decide +kernel
  case test =>
    unfold State.TestWf
    decide +kernel

end Sys2Proof.Machine

/-! SUPPORT. SETWATCH (R135), and the custody reset of CLEAR (R170). -/

namespace Sys2Proof.Machine

/-! ## SETWATCH's checks -/

section Setwatch

variable {t : State} {tag unit : Byte} {w : WatchSettings} {u : Fin 4} {low high : Bd}

theorem serveSetwatch_unit_range (hu : 4 ≤ unit.toNat) : serveSetwatch tag unit w t = t.answer 0x12 tag .outOfRange [0] := by
  simp [serveSetwatch, Nat.not_lt.2 hu, State.outOfRange]

theorem serveSetwatch_refused {field : Byte} (hu : unit.toNat = u.val) (hcheck : checkWatch u w = .error field) :
    serveSetwatch tag unit w t = t.answer 0x12 tag .outOfRange [field] := by
  have hlt : unit.toNat < 4 := hu ▸ u.isLt
  have hunit : (⟨unit.toNat, hlt⟩ : Fin 4) = u := Fin.ext hu
  simp [serveSetwatch, hlt, hunit, hcheck, State.outOfRange]

theorem serveSetwatch_accepted {stored : WatchUnit} (hu : unit.toNat = u.val) (hcheck : checkWatch u w = .ok stored) :
    serveSetwatch tag unit w t
      = (t.setUnit u stored).answer 0x12 tag .accepted (unit :: stored.bytes ++ [(t.setUnit u stored).pairByte]) := by
  have hlt : unit.toNat < 4 := hu ▸ u.isLt
  have hunit : (⟨unit.toNat, hlt⟩ : Fin 4) = u := Fin.ext hu
  simp [serveSetwatch, hlt, hunit, hcheck]

end Setwatch

theorem watchKind_eq (u : Fin 4) (k : Byte) :
    watchKind u k = if 2 < k.toNat ∨ k = 2 ∧ u ≠ 0 then none else some (if k = 0 then .key else if k = 1 then .board else .range) := by
  have hbyte : k = 0 ∨ k = 1 ∨ k = 2 ∨ 2 < k.toNat := by bv_omega
  rcases hbyte with rfl | rfl | rfl | hbig
  · simp [watchKind]
  · simp [watchKind]
  · by_cases hu : u = 0 <;> simp [watchKind, hu]
  · have h0 : k ≠ 0 := by bv_omega
    have h1 : k ≠ 1 := by bv_omega
    have h2 : k ≠ 2 := by bv_omega
    rw [if_pos (.inl hbig)]
    exact (if_neg h0).trans ((if_neg h1).trans (if_neg fun h => h2 h.1))

/-- Settles O38: the checks by the fields, then the write and the pair byte read off the written state. -/
theorem watchUnitWritten : Obligations.WatchUnitWritten := by
  intro s tag unit w hr i
  refine ⟨fun hu => exec_answered rfl hr (serveSetwatch_unit_range hu), fun u hu => ?_⟩
  intro badKind
  have refused {field : Byte} (hcheck : checkWatch u w = .error field) : exec i s = .next (answered i s 0x12 tag .outOfRange [field]) :=
    exec_answered rfl hr (serveSetwatch_refused hu hcheck)
  have hkind (hgood : ¬ badKind) : watchKind u w.kind = some (if w.kind = 0 then .key else if w.kind = 1 then .board else .range) := by
    rw [watchKind_eq, if_neg hgood]
  refine ⟨fun hbad => refused ?_, fun hgood hlow => refused ?_, fun hgood hlow hhigh => refused ?_, fun hgood hlow hless => refused ?_,
    fun low high hgood hlow hhigh hle => ?_⟩
  · rw [checkWatch, watchKind_eq, if_pos hbad]
  · rw [checkWatch, hkind hgood, (toBd_none _).2 hlow]
  · rw [checkWatch, hkind hgood, (toBd_some _ ⟨w.low.toNat, hlow⟩).2 rfl, (toBd_none _).2 hhigh]
  · have hhigh : w.high.toNat < 32 := by omega
    have hlt : (⟨w.high.toNat, hhigh⟩ : Bd) < ⟨w.low.toNat, hlow⟩ := hless
    rw [checkWatch, hkind hgood, (toBd_some _ ⟨w.low.toNat, hlow⟩).2 rfl, (toBd_some _ ⟨w.high.toNat, hhigh⟩).2 rfl]
    exact if_pos hlt
  · intro stored t paired empty
    have hcheck : checkWatch u w = .ok stored := by
      rw [checkWatch, hkind hgood, (toBd_some _ _).2 hlow, (toBd_some _ _).2 hhigh]
      exact if_neg (Fin.not_lt.2 hle)
    have hstored : (s.takeOff i).setUnit u stored = t := by
      simp [State.setUnit, t]
    have hpair : t.pairByte = BitVec.ofNat 8 (paired.toNat + 2 * (paired && empty).toNat) := by
      show bitsByte [paired, paired && empty] = _
      cases paired <;> cases empty <;> rfl
    have hserve := serveSetwatch_accepted (t := s.takeOff i) (tag := tag) hu hcheck
    rw [hstored, hpair] at hserve
    exact exec_served rfl hr hserve

/-! ## CLEAR (R170) -/

theorem takeOff_custodyReset (s : State) (i : Instr) :
    (s.takeOff i).custodyReset = { s.custodyReset with buffer := (s.takeOff i).buffer, ready := (s.takeOff i).ready } := by
  rw [takeOff_eq]
  rfl

theorem takeOff_enrolled (s : State) (i : Instr) : (s.takeOff i).enrolled = s.enrolled := by
  rw [takeOff_eq]
  rfl

/-- The boards that a custody reset moves to WARMING are those that were enrolled. -/
theorem custodyReset_active (s : State) : s.custodyReset.active = s.enrolled := by
  have hsame (b : Bd) : (s.custodyReset.board b).state = .absent ↔ (s.board b).state = .absent := by
    rw [(custodyReset_reads s b).1, Board.custodyReset]
    by_cases hb : (s.board b).state = .absent <;> simp [hb, Board.warmed]
  show s.custodyReset.enrolled = s.enrolled
  simp only [State.enrolled, ne_eq, hsame]

/-- Settles O43: the custody reset of the state without the request's frame, read field by field. -/
theorem clearResetsCustody : Obligations.ClearResetsCustody := by
  intro s tag hr i h graceEnd moved
  have hserve : serve i (s.takeOff i)
      = ({ s.custodyReset with buffer := (s.takeOff i).buffer, ready := (s.takeOff i).ready } : State).answer 0x15 tag .accepted
        (be 4 s.clock.toNat ++ [BitVec.ofNat 8 moved]) := by
    have hclock : (s.takeOff i).clock = s.clock := by simp
    show serveClear tag (s.takeOff i) = _
    rw [serveClear, takeOff_custodyReset, takeOff_enrolled, hclock]
    rfl
  refine ⟨_, exec_served rfl hr hserve, ?answers, rfl, rfl, ?free, ?lists, rfl, rfl, rfl, fun b hb => ?absent, fun b hb => ?enrolled,
    custodyReset_active s, rfl, rfl, rfl, ?causes, isSet_clear, rfl, rfl, rfl, rfl, rfl, fun hrun => ?running, fun hrun => ?idle, ?frame⟩
  case answers => exact ⟨rfl, rfl, rfl, rfl, rfl⟩
  case free => exact s.pinReset_free
  case lists => exact fun b => Vector.getElem_replicate b.isLt
  case absent =>
    obtain ⟨hboard, hline⟩ := custodyReset_reads s b
    rw [Board.custodyReset, if_pos hb] at hboard
    rw [lineReset, if_pos hb] at hline
    exact ⟨hboard, hline⟩
  case enrolled =>
    obtain ⟨hboard, hline⟩ := custodyReset_reads s b
    rw [Board.custodyReset, if_neg hb] at hboard
    rw [lineReset, if_neg hb] at hline
    exact ⟨hboard, hline⟩
  case causes => exact fun b => Vector.getElem_replicate b.isLt
  case running => exact if_pos hrun
  case idle => exact if_neg (Bool.eq_false_iff.1 hrun)
  case frame =>
    unfold State.custodyReset State.restartSweep State.countAnew State.warmBoards State.freeTable
    rfl

end Sys2Proof.Machine

/-! SUPPORT. The verification of the parameter groups, and the settings as used (R63, R72, R80, R131, R154, R155). -/

namespace Sys2Proof.Machine

/-! ## A set of bits as a number -/

theorem testBit_ofBits (l : List Bool) (k : Nat) : (ofBits l).testBit k = l.getD k false := by
  induction l generalizing k with
  | nil => simp [ofBits]
  | cons b l ih =>
    have hbit : ofBits (b :: l) = Nat.bit b (ofBits l) := by
      rw [Nat.bit_val]
      rfl
    rw [hbit]
    cases k with
    | zero => simp
    | succ k => simp [Nat.testBit_bit_succ, ih]

theorem getLsbD_ofBits (w : Nat) (l : List Bool) (k : Nat) :
    (BitVec.ofNat w (ofBits l)).getLsbD k = (decide (k < w) && l.getD k false) := by
  rw [BitVec.getLsbD_ofNat, testBit_ofBits]

/-- The groups that are valid before and not after. -/
theorem getLsbD_newlyFailed (old new : Groups) {k : Nat} (hk : k < 16) :
    (newlyFailed old new).getLsbD k = (decide (k < 12) && old.valids.getD k false && !(new.valids.getD k false)) := by
  have hold : old.valids.length = 12 := rfl
  have hnew : new.valids.length = 12 := rfl
  rw [newlyFailed, getLsbD_ofBits, decide_eq_true hk, Bool.true_and, List.getD_eq_getElem?_getD, List.getD_eq_getElem?_getD,
    List.getD_eq_getElem?_getD, List.getElem?_zipWith]
  by_cases h : k < 12
  · rw [List.getElem?_eq_getElem (hold ▸ h), List.getElem?_eq_getElem (hnew ▸ h)]
    simp [h]
  · rw [List.getElem?_eq_none (hold ▸ Nat.not_lt.1 h)]
    simp [h]

/-! ## One group verified -/

section Verify

variable {α : Type} [DecidableEq α] (n : Nat) (bytes : α → List Byte) (g : Machine.Group α)

theorem verifyGroup_of_invalid (h : g.valid = false) : verifyGroup n bytes g = g := by
  cases g
  simp_all [verifyGroup]

theorem verifyGroup_of_agrees (h : g.codeOver = g.fields) : verifyGroup n bytes g = g := by
  cases g
  simp_all [verifyGroup, codeOk]

theorem verifyGroup_valid (h : g.codeOver ≠ g.fields) :
    (verifyGroup n bytes g).valid = (g.valid && Config.codePasses n (bytes g.codeOver) (bytes g.fields)) := by
  simp [verifyGroup, codeOk, h]

end Verify

/-! ## Values clamped to a range -/

theorem max_one_toNat {w : Nat} (x : BitVec w) : max 1 x.toNat = if x = 0#w then 1 else x.toNat := by
  have hzero := toNat_eq_zero x
  by_cases h : x = 0#w
  · rw [if_pos h, hzero.2 h]
    rfl
  · rw [if_neg h]
    have hpos : x.toNat ≠ 0 := fun hx => h (hzero.1 hx)
    omega

theorem clamp_one_toNat {w : Nat} (x : BitVec w) (hi : Nat) (hhi : 1 ≤ hi) :
    clamp x.toNat 1 hi = if x = 0#w then 1 else if hi < x.toNat then hi else x.toNat := by
  have hzero := toNat_eq_zero x
  by_cases h : x = 0#w
  · rw [if_pos h, hzero.2 h]
    exact if_pos Nat.zero_lt_one
  · have hpos : x.toNat ≠ 0 := fun hx => h (hzero.1 hx)
    rw [if_neg h, clamp]
    split_ifs <;> omega

/-- Settles O42: one group, the twelve by number, the newly failed ones by bit, and the settings by their range. -/
theorem groupsVerified : Obligations.GroupsVerified := by
  refine ⟨fun α _ n bytes g => ⟨rfl, rfl, verifyGroup_of_invalid n bytes g, verifyGroup_of_agrees n bytes g, verifyGroup_valid n bytes g⟩,
    fun g => ⟨rfl, fun c => ?profiles, rfl, rfl, rfl, rfl, rfl, rfl, rfl, rfl⟩, fun s => ?failed, fun s => ?used⟩
  case profiles => fin_cases c <;> rfl
  case failed =>
    intro failed
    refine ⟨fun k hk => getLsbD_newlyFailed _ _ hk, fun h => if_pos h, fun h => (if_neg h).trans ?_⟩
    rfl
  case used =>
    intro h g t y
    refine ⟨max_one_toNat _, ?hbMax, max_one_toNat _, ?grace, clamp_one_toNat _ 16 (by decide), ?ccPct, ?xchkTol,
      clamp_one_toNat _ 8192 (by decide), ?highMark, clamp_one_toNat _ 6 (by decide), max_one_toNat _, fun c => max_one_toNat _⟩
    case hbMax =>
      show max (s.hbMin + 1) h.hbMax.toNat = _
      split <;> omega
    case grace =>
      show max 1 h.grace.toNat * 2 ^ (6 + min 3 h.gdiv.toNat) = _
      rw [max_one_toNat]
      congr 1
      rcases h.gdiv.toNat with _ | _ | _ | d
      · rfl
      · rfl
      · rfl
      · show 2 ^ (6 + min 3 (d + 3)) = 512
        have hmin : min 3 (d + 3) = 3 := Nat.min_eq_left (Nat.le_add_left 3 d)
        norm_num [hmin]
    case ccPct =>
      show min 100 g.ccPct.toNat = _
      split <;> omega
    case xchkTol =>
      show min 1023 g.xchkTol.toNat = _
      split <;> omega
    case highMark => rfl

end Sys2Proof.Machine

/-! SUPPORT. The self-test's compare phase and the request TEST (R156, R157). -/

namespace Sys2Proof.Machine

/-! ## The compare phase charge by charge -/

theorem ceilDiv_eq {w x n : Nat} (hlow : n * w < x) (hhigh : x ≤ (n + 1) * w) : ceilDiv x w = n + 1 := by
  have hsucc : (n + 1) * w = n * w + w := by ring
  have hsucc2 : (n + 1 + 1) * w = n * w + w + w := by ring
  exact Nat.div_eq_of_lt_le (by omega) (by omega)

theorem ceilDiv_le_iff {w x n : Nat} (hw : 1 ≤ w) : ceilDiv x w ≤ n ↔ x ≤ n * w := by
  have hsucc : (n + 1) * w = n * w + w := by ring
  rw [ceilDiv, ← Nat.lt_succ_iff, Nat.div_lt_iff_lt_mul hw, Nat.succ_eq_add_one, hsucc]
  omega

/-- Where the compare phase stands after n charges of weight w, with alert level a. -/
def CompareRun.after (w a n : Nat) : CompareRun :=
  { record := ⟨if a ≤ min 4095 (n * w) then .doubtful else .live, min 4095 (n * w), min 65535 n, false⟩
    count := n
    nA := if a ≤ min 4095 (n * w) then ceilDiv a w else 0 }

section Compare

variable {w a v : Nat}

theorem next_after (ha : a ≤ 4094) (n : Nat) : (CompareRun.after w a n).next w a = CompareRun.after w a (n + 1) := by
  have hsucc : (n + 1) * w = n * w + w := by ring
  have hscore : min 4095 (min 4095 (n * w) + w) = min 4095 ((n + 1) * w) := by omega
  have hcharges : min 65535 (min 65535 n + 1) = min 65535 (n + 1) := by omega
  unfold CompareRun.next TestRecord.charged CompareRun.after
  dsimp only
  rw [hscore, hcharges]
  by_cases hnow : a ≤ min 4095 (n * w)
  · have hlater : a ≤ min 4095 ((n + 1) * w) := by omega
    simp [hnow, hlater]
  · by_cases hlater : a ≤ min 4095 ((n + 1) * w)
    · have hceil : ceilDiv a w = n + 1 := ceilDiv_eq (by omega) (by omega)
      simp [hnow, hlater, hceil]
    · simp [hnow, hlater]

theorem stops_after (hav : a < v) (hv : v ≤ 4095) (hw : 1 ≤ w) (n : Nat) :
    (CompareRun.after w a n).stops v = decide (ceilDiv v w ≤ n) := by
  rw [CompareRun.stops, decide_eq_decide, ceilDiv_le_iff hw]
  unfold CompareRun.after
  dsimp only
  constructor
  · rintro ⟨-, h⟩
    omega
  · intro h
    have hscore : a ≤ min 4095 (n * w) := by omega
    exact ⟨if_pos hscore, by omega⟩

/-- The charges go on until the score reaches V. -/
theorem compareRounds_after (ha : a ≤ 4094) (hav : a < v) (hv : v ≤ 4095) (hw : 1 ≤ w) (k n : Nat) (hn : n < ceilDiv v w)
    (hk : ceilDiv v w ≤ n + k) : compareRounds w a v k (CompareRun.after w a n) = CompareRun.after w a (ceilDiv v w) := by
  induction k generalizing n with
  | zero => omega
  | succ k ih =>
    rw [compareRounds, next_after ha, stops_after hav hv hw]
    by_cases hend : ceilDiv v w ≤ n + 1
    · have hlast : n + 1 = ceilDiv v w := by omega
      rw [if_pos (decide_eq_true hend), hlast]
    · rw [if_neg (by simpa using hend)]
      exact ih (n + 1) (by omega) (by omega)

theorem compareRun_eq (ha2 : 2 ≤ a) (ha : a ≤ 4094) (hav : a < v) (hv : v ≤ 4095) (hw : 1 ≤ w) :
    compareRun w a v = CompareRun.after w a (ceilDiv v w) := by
  have hstart : (⟨⟨.live, 0, 0, false⟩, 0, 0⟩ : CompareRun) = CompareRun.after w a 0 := by
    have hlow : ¬ a ≤ min 4095 (0 * w) := by omega
    simp only [CompareRun.after, if_neg hlow]
    simp
  have hpos : 0 < ceilDiv v w := Nat.pos_of_ne_zero fun h => by
    have hzero := (ceilDiv_le_iff (x := v) (n := 0) hw).1 h.le
    omega
  have hfew : ceilDiv v w ≤ 0 + 4096 := (ceilDiv_le_iff hw).2 (by nlinarith)
  rw [compareRun, hstart, compareRounds_after ha hav hv hw 4096 0 hpos hfew]

end Compare

/-! ## TEST served (R156) -/

theorem largest_pos {f : Weights} (hf : f ≠ ⟨0, 0, 0, 0, 0, 0⟩) : 1 ≤ Weights.largest f := by
  by_contra hsmall
  have hzero : f.wAuth.toNat = 0 ∧ f.wSettle.toNat = 0 ∧ f.wStall.toNat = 0 ∧ f.wLost.toNat = 0 ∧ f.wRacing.toNat = 0
      ∧ f.wXcheck.toNat = 0 := by
    unfold Weights.largest at hsmall
    omega
  simp only [toNat_eq_zero] at hzero
  obtain ⟨h0, h1, h2, h3, h4, h5⟩ := hzero
  refine hf ?_
  cases f
  simp_all

/-- What a TEST under legal effective settings leaves: the counts are the exact quotients, so that COMPARE is not recorded. -/
theorem startTest_of_legal {s : State} (inject : Bool) (hlegal : ThresholdsLegal s.effThresholds) (hw : s.effWeights ≠ ⟨0, 0, 0, 0, 0, 0⟩) :
    s.startTest inject =
      { s.verifyGroups with
        testRecord := { state := .absent, score := 0, charges := ceilDiv s.levelV (Weights.largest s.effWeights), pending := false }
        selfTest :=
          { running := true, phase := .waiting, result := .none
            causes := ⟨!s.verifyGroups.allValid, false, false, inject⟩, inject := inject
            invalidGroups := s.verifyGroups.invalidSet
            nA := ceilDiv s.levelA (Weights.largest s.effWeights)
            nV := ceilDiv s.levelV (Weights.largest s.effWeights), memoryFailures := 0 } } := by
  obtain ⟨ha2, ha, -, -, hav, hv, -, -⟩ := hlegal
  have hpos := largest_pos hw
  have hrun : compareRun (Weights.largest s.effWeights) s.levelA s.levelV
      = CompareRun.after (Weights.largest s.effWeights) s.levelA (ceilDiv s.levelV (Weights.largest s.effWeights)) :=
    compareRun_eq ha2 ha hav hv hpos
  have hreached : s.levelA ≤ min 4095 (ceilDiv s.levelV (Weights.largest s.effWeights) * Weights.largest s.effWeights) := by
    have hv' : s.levelV ≤ 4095 := hv
    have ha' : s.levelA < s.levelV := hav
    have hceil := (ceilDiv_le_iff (x := s.levelV) (n := ceilDiv s.levelV (Weights.largest s.effWeights)) hpos).1 le_rfl
    omega
  have hcharges : min 65535 (ceilDiv s.levelV (Weights.largest s.effWeights)) = ceilDiv s.levelV (Weights.largest s.effWeights) := by
    have hfew : ceilDiv s.levelV (Weights.largest s.effWeights) ≤ 4095 := (ceilDiv_le_iff hpos).2 (by
      have hv' : s.levelV ≤ 4095 := hv
      nlinarith)
    omega
  have hverify : s.verifyGroups.effWeights = s.effWeights ∧ s.verifyGroups.levelA = s.levelA ∧ s.verifyGroups.levelV = s.levelV := by
    rw [verifyGroups_eq]
    exact ⟨rfl, rfl, rfl⟩
  obtain ⟨hweights, hlevelA, hlevelV⟩ := hverify
  unfold State.startTest compareCauses
  dsimp only
  rw [hweights, hlevelA, hlevelV, hrun]
  simp [CompareRun.after, hreached, hcharges]

/-- Settles O41: the compare phase counts the quotients; the checks in order. -/
theorem selfTestRequested : Obligations.SelfTestRequested := by
  constructor
  · intro s tag inject hr hh hinject hrun hlegal hweights i f w nA nV v u
    have hw : Weights.largest f = w := by
      simp only [Weights.largest, w]
      omega
    have hsettings : (s.takeOff i).effThresholds = s.effThresholds ∧ (s.takeOff i).effWeights = s.effWeights
        ∧ (s.takeOff i).levelA = s.levelA ∧ (s.takeOff i).levelV = s.levelV := by
      rw [takeOff_eq]
      exact ⟨rfl, rfl, rfl, rfl⟩
    obtain ⟨hthresholds, heff, hlevelA, hlevelV⟩ := hsettings
    have hstart : (s.takeOff i).startTest (decide (inject = 1)) = u := by
      rw [startTest_of_legal _ (by rw [hthresholds]; exact hlegal) (by rw [heff]; exact hweights), heff, hlevelA, hlevelV]
      show _ = u
      rw [hw]
      rfl
    have hserve : serve i (s.takeOff i) = ((s.takeOff i).startTest (decide (inject = 1))).answer 0x14 tag .accepted [1] := by
      simp [serve, i, serveTest, hh, Nat.not_lt.2 hinject, hrun]
    rw [hstart] at hserve
    exact exec_served rfl hr hserve
  · intro s tag inject hr i
    refine ⟨fun hh => exec_answered rfl hr ?_, fun hh hinject => exec_answered rfl hr ?_, fun hh hinject hrun => ?_⟩
    · simp [serve, i, serveTest, hh]
    · have hlow : 1 < inject.toNat := hinject
      simp [serve, i, serveTest, hh, hlow, State.outOfRange]
    · have hserve : serve i (s.takeOff i) = (s.takeOff i).answer 0x14 tag .busy [BitVec.ofNat 8 s.selfTest.phase.number] := by
        simp [serve, i, serveTest, hh, Nat.not_lt.2 hinject, hrun]
      cases hphase : s.selfTest.phase <;> rw [hphase] at hserve <;> exact exec_answered rfl hr hserve

end Sys2Proof.Machine

/-! SUPPORT. NOTICE: the latch fetched, and the bytes of each kind (R143 to R145, R168). -/

namespace Sys2Proof.Machine

/-! ## The latch fetched (R144) -/

/-- Latch r is fetched before latch q: its priority number is lower, or its board or unit within the kind. -/
def LatchRef.fetchedBefore (r q : LatchRef) : Prop :=
  r.priority < q.priority ∨ r.priority = q.priority ∧ r.place.toNat < q.place.toNat

theorem latchOrder_pairwise : latchOrder.Pairwise LatchRef.fetchedBefore := by
  unfold LatchRef.fetchedBefore
  decide +kernel

/-- A set latch that no set latch comes before is the one NOTICE chooses. -/
theorem chosen_of_first {l : Latches} {r : LatchRef} (hr : l.isSet r = true)
    (hfirst : ∀ q, l.isSet q = true → r.priority < q.priority ∨ (r.priority = q.priority ∧ r.place.toNat ≤ q.place.toNat)) :
    l.chosen = some r := by
  cases hchosen : l.chosen with
  | none => exact absurd hr (by simpa using List.find?_eq_none.1 hchosen r (mem_latchOrder r))
  | some q =>
    obtain ⟨hq, before, later, horder, hbefore⟩ := List.find?_eq_some_iff_append.1 hchosen
    have hmem := mem_latchOrder r
    rw [horder, List.mem_append, List.mem_cons] at hmem
    rcases hmem with hmem | rfl | hmem
    · simpa [hr] using hbefore r hmem
    · rfl
    · have hsorted := latchOrder_pairwise
      rw [horder] at hsorted
      have hqr := (List.pairwise_cons.1 (List.pairwise_append.1 hsorted).2.1).1 r hmem
      have hrq := hfirst q hq
      unfold LatchRef.fetchedBefore at hqr
      omega

/-! ## One latch cleared -/

theorem isSome_set_none {α : Type} {n : Nat} (v : Vector (Option α) n) (i j : Fin n) :
    ((v.set i.val none i.isLt)[j.val]).isSome = ((v[j.val]).isSome && decide (j ≠ i)) := by
  by_cases h : j = i
  · simp [h]
  · have hne : i.val ≠ j.val := fun hv => h (Fin.ext hv.symm)
    simp [h, hne]

theorem isSet_cleared (l : Latches) (r q : LatchRef) : (l.cleared r).isSet q = (l.isSet q && decide (q ≠ r)) := by
  cases r with
  | halted => cases q <;> simp [Latches.cleared, Latches.isSet]
  | paramFault => cases q <;> simp [Latches.cleared, Latches.isSet]
  | verdict b => cases q <;> simp [Latches.cleared, Latches.isSet, isSome_set_none]
  | common => cases q <;> simp [Latches.cleared, Latches.isSet]
  | withheld b => cases q <;> simp [Latches.cleared, Latches.isSet, isSome_set_none]
  | doubt b => cases q <;> simp [Latches.cleared, Latches.isSet, isSome_set_none]
  | heartbeat b => cases q <;> simp [Latches.cleared, Latches.isSet, isSome_set_none]
  | damage => cases q <;> simp [Latches.cleared, Latches.isSet]
  | tableHigh => cases q <;> simp [Latches.cleared, Latches.isSet]
  | testDone => cases q <;> simp [Latches.cleared, Latches.isSet]
  | watch u => cases q <;> simp [Latches.cleared, Latches.isSet, isSome_set_none]
  | link => cases q <;> simp [Latches.cleared, Latches.isSet]

/-! ## The payload (R168) -/

theorem noticePayload_eq {s : State} {r : LatchRef} {time : Time} {content : List Byte}
    (hcontent : s.latches.content r = some (time, content)) :
    s.noticePayload r =
      [BitVec.ofNat 8 r.priority, r.place] ++ be 4 time.toNat
        ++ [BitVec.ofNat 8 (latchOrder.filter fun q => s.latches.isSet q && decide (q ≠ r)).length] ++ content ++ s.snapshot r := by
  have hcount : (s.latches.cleared r).isSet = fun q => s.latches.isSet q && decide (q ≠ r) := funext (isSet_cleared s.latches r)
  rw [State.noticePayload, hcontent, Latches.countSet, hcount]
  rfl

theorem ofNat_toNat_bool (v : Bool) : BitVec.ofNat 8 v.toNat = if v then 1 else 0 := by
  cases v <;> rfl

theorem causeByte_eq (s : State) (b : Bd) :
    s.causeByte b = match s.cause b with | none => 0 | some .common => 1 | some .param => 2 | some .limit => 3 := by
  rw [State.causeByte]
  rcases s.cause b with _ | _ | _ | _ <;> rfl

/-- The board snapshot in the words of R168. -/
theorem boardSnapshot_eq (s : State) (b : Bd) (cause : Byte) (hcause : s.causeByte b = cause) :
    s.boardSnapshot b =
      [(s.board b).state.byte] ++ be 2 (s.board b).score ++ [if (s.board b).pending then 1 else 0, cause]
        ++ (if (s.board b).state = .silent ∨ (s.board b).state = .drained then
            be 4 ((s.board b).verdictTime.getD 0).toNat ++ be 2 (s.board b).outstanding
          else [0, 0, 0, 0, 0, 0]) := by
  have hdown : (s.board b).state.isDown = true ↔ (s.board b).state = .silent ∨ (s.board b).state = .drained := by
    cases (s.board b).state <;> simp [BoardState.isDown]
  simp only [State.boardSnapshot, hcause, ofNat_toNat_bool, hdown]
  rfl

theorem getLsbD_invalidSet (s : State) {k : Nat} (hk : k < 16) :
    s.invalidSet.getLsbD k = (decide (k < 12) && !(s.groups.valids.getD k false)) := by
  have hlength : s.groups.valids.length = 12 := rfl
  rw [State.invalidSet, getLsbD_ofBits, decide_eq_true hk, Bool.true_and, List.getD_eq_getElem?_getD, List.getD_eq_getElem?_getD,
    List.getElem?_map]
  by_cases h : k < 12
  · rw [List.getElem?_eq_getElem (hlength ▸ h)]
    simp [h]
  · rw [List.getElem?_eq_none (hlength ▸ Nat.not_lt.1 h)]
    simp [h]

/-- Settles O39: the first set latch is chosen and cleared; its payload is its content and its snapshot, kind by kind. -/
theorem noticeFetchesFirstLatch : Obligations.NoticeFetchesFirstLatch := by
  refine ⟨fun s tag hr => ⟨fun hnone => ?none, fun r hr' hfirst => ⟨?fetched, isSet_cleared s.latches r⟩⟩, fun s => ?bytes⟩
  case none =>
    have hchosen : s.latches.chosen = none := List.find?_eq_none.2 fun r _ => by simp [hnone r]
    refine exec_answered rfl hr ?_
    simp [serve, serveNotice, hchosen]
  case fetched =>
    have hlatches : (s.takeOff (.notice tag)).latches = s.latches := by simp
    have hserve : serve (.notice tag) (s.takeOff (.notice tag))
        = ((s.takeOff (.notice tag)).modifyLatches fun l => l.cleared r).answer 0x13 tag .notice
            ((s.takeOff (.notice tag)).noticePayload r) := by
      simp [serve, serveNotice, chosen_of_first hr' hfirst]
    rw [State.modifyLatches, hlatches] at hserve
    exact exec_served rfl hr hserve
  case bytes =>
    intro l bit head flag causeOf snapshot
    have notice (r : LatchRef) (time : Time) (content : List Byte) {snap : List Byte} (hcontent : l.content r = some (time, content))
        (hsnap : s.snapshot r = snap) : s.noticePayload r = head r (BitVec.ofNat 8 r.priority) r.place time ++ content ++ snap := by
      rw [noticePayload_eq hcontent, hsnap]
    have hflag (v : Bool) : BitVec.ofNat 8 v.toNat = flag v := ofNat_toNat_bool v
    have hcause (b : Bd) : s.causeByte b = causeOf b := causeByte_eq s b
    have hsnapshot (b : Bd) : s.boardSnapshot b = snapshot b := boardSnapshot_eq s b _ (hcause b)
    refine ⟨fun x hx => ?halted, fun x hx => ?paramFault, fun k hk => getLsbD_invalidSet s hk, fun b x hx => ?verdict, fun x hx => ?common,
      fun b x hx => ?withheld, fun b x hx => ?doubt, fun b x hx => ?heartbeat, fun x hx => ?damage, fun x hx => ?tableHigh,
      fun x hx => ?testDone, fun u x hx => ?watch, fun x hx => ?link⟩
    case halted =>
      refine (notice .halted x.time x.what.bytes (by simp [Latches.content, hx]) rfl).trans ?_
      simp only [State.snapshot, hflag, List.append_assoc]
      cases x.what <;> rfl
    case paramFault => exact notice .paramFault x.time (be 2 x.groups.toNat) (by simp [Latches.content, hx]) rfl
    case verdict =>
      refine (notice (.verdict b) x.time [x.path.byte] (by simp [Latches.content, hx]) (hsnapshot b)).trans ?_
      cases x.path <;> rfl
    case common =>
      refine (notice .common x.time [x.change.byte, BitVec.ofNat 8 x.again.toNat] (by simp [Latches.content, hx]) rfl).trans ?_
      simp only [State.snapshot, hflag]
      cases x.change <;> rfl
    case withheld =>
      refine (notice (.withheld b) x.time [x.cause.byte] (by simp [Latches.content, hx]) (hsnapshot b)).trans ?_
      cases x.cause <;> rfl
    case doubt =>
      refine (notice (.doubt b) x.time [x.item.byte] (by simp [Latches.content, hx]) (hsnapshot b)).trans ?_
      rcases x.item with (_ | _ | _ | _ | _ | _) | _ <;> rfl
    case heartbeat =>
      refine (notice (.heartbeat b) x.time [bitsByte [x.lost, x.racing]] (by simp [Latches.content, hx]) (hsnapshot b)).trans ?_
      cases x.lost <;> cases x.racing <;> rfl
    case damage =>
      refine (notice .damage x.time (be 2 x.slot ++ [optBoardByte x.board, BitVec.ofNat 8 x.count]) (by simp [Latches.content, hx]) rfl).trans ?_
      simp only [State.snapshot, List.append_assoc]
      cases x.board <;> rfl
    case tableHigh =>
      refine (notice .tableHigh x.time (be 2 x.occupancy) (by simp [Latches.content, hx]) rfl).trans ?_
      simp only [State.snapshot, List.append_assoc]
      rfl
    case testDone =>
      refine (notice .testDone x.time [BitVec.ofNat 8 x.result.number, x.causes.byte] (by simp [Latches.content, hx]) rfl).trans ?_
      simp only [State.snapshot, hflag]
      rcases x.causes with ⟨_ | _, _ | _, _ | _, _ | _⟩ <;> cases x.result <;> rfl
    case watch =>
      have hslot : s.latches.watchSlot u = x.slot := by simp only [Latches.watchSlot, show s.latches.watch[u.val] = some x from hx]; rfl
      refine (notice (.watch u) x.time ([BitVec.ofNat 8 x.event.number] ++ be 2 x.slot ++ [BitVec.ofNat 8 x.board.val] ++ keyBytes x.key
        ++ [BitVec.ofNat 8 x.overrun.toNat]) (by simp [Latches.content, hx]) rfl).trans ?_
      have hstage : stageByte (s.slot x.slot) = match s.slot x.slot with
            | none => 0 | some (.record .lodged _ _ _) => 1 | some (.record .decided _ _ _) => 2
            | some (.damaged _ _ _) | some .unattributed => 3 := by
        rcases s.slot x.slot with _ | ⟨_ | _, _, _, _⟩ | _ | _ <;> rfl
      simp only [State.snapshot, hslot, hstage, hflag, keyBytes, List.append_assoc]
      cases x.event <;> rfl
    case link => exact notice .link x.time [BitVec.ofNat 8 x.count] (by simp [Latches.content, hx]) rfl

end Sys2Proof.Machine

/-! SUPPORT. The status requests: their answers byte for byte (R60, R93, R133, R164, R167 to R170). -/

namespace Sys2Proof.Machine

/-! ## A byte from its flags -/

theorem ofBits_cons (v : Bool) (bits : List Bool) : ofBits (v :: bits) = 2 * ofBits bits + v.toNat := rfl

theorem ofBits_nil : ofBits [] = 0 := rfl

/-! ## What the requests read is not touched by taking the frame off -/

@[simp] theorem takeOff_boardStatus (s : State) (i : Instr) (b : Bd) : (s.takeOff i).boardStatus b = s.boardStatus b := by
  rw [takeOff_eq]
  rfl

theorem takeOff_insertByScore (s : State) (i : Instr) (b : Bd) (l : List Bd) :
    (s.takeOff i).insertByScore b l = s.insertByScore b l := by
  induction l with
  | nil => rfl
  | cons c l ih => simp [State.insertByScore, ih]

theorem takeOff_grantOrder (s : State) (i : Instr) : (s.takeOff i).grantOrder = s.grantOrder := by
  rw [State.grantOrder, funext fun b => funext (takeOff_insertByScore s i b), takeOff_eq]
  rfl

@[simp] theorem takeOff_devicePart (s : State) (i : Instr) (n : Nat) : (s.takeOff i).devicePart n = s.devicePart n := by
  have hpart1 : (s.takeOff i).devicePart1 = s.devicePart1 := by
    rw [State.devicePart1, takeOff_grantOrder, takeOff_eq]
    rfl
  rcases n with _ | _ | _ | n
  · rw [takeOff_eq]
    rfl
  · exact congrArg some hpart1
  · rw [takeOff_eq]
    rfl
  · rfl

@[simp] theorem takeOff_groupReport (s : State) (i : Instr) (n : Nat) : (s.takeOff i).groupReport n = s.groupReport n := by
  rw [takeOff_eq]
  rfl

theorem devicePart_isSome (s : State) (n : Nat) : (s.devicePart n).isSome = true ↔ n ≤ 2 := by
  rcases n with _ | _ | _ | n <;> simp [State.devicePart]

theorem groupReport_isSome (s : State) (n : Nat) : (s.groupReport n).isSome = true ↔ n ≤ 11 := by
  rcases n with _ | _ | _ | _ | _ | _ | _ | _ | _ | _ | _ | _ | n <;> simp [State.groupReport]

theorem devicePart_eq_none {s : State} {n : Nat} (h : 3 ≤ n) : s.devicePart n = none :=
  Option.not_isSome_iff_eq_none.1 fun hsome => absurd ((devicePart_isSome s n).1 hsome) (by omega)

theorem groupReport_eq_none {s : State} {n : Nat} (h : 12 ≤ n) : s.groupReport n = none :=
  Option.not_isSome_iff_eq_none.1 fun hsome => absurd ((groupReport_isSome s n).1 hsome) (by omega)

/-! ## The bytes of each part -/

theorem devicePart1_causes (s : State) : ∃ order : List Bd, order.Nodup ∧ (∀ b, b ∈ order ↔ s.cause b ≠ none)
    ∧ order.Pairwise (fun b c => (s.board c).score < (s.board b).score ∨ (s.board c).score = (s.board b).score ∧ b < c)
    ∧ s.devicePart1 = [1, BitVec.ofNat 8 order.length] ++ order.flatMap fun b => [BitVec.ofNat 8 b.val, s.causeByte b] := by
  refine ⟨s.grantOrder, ?_, fun b => by rw [mem_grantOrder, Option.isSome_iff_ne_none], grantOrder_pairwise s, rfl⟩
  refine (grantOrder_pairwise s).imp fun {b c} hbc heq => ?_
  unfold State.grantsBefore at hbc
  subst heq
  omega

theorem watchUnit_bytes (w : WatchUnit) :
    w.bytes = ([if w.enable then 1 else 0, match w.kind with | .key => 0 | .board => 1 | .range => 2] : List Byte)
        ++ be 3 w.value.terminal.toNat ++ be 3 w.value.sequence.toNat ++ be 3 w.mask.terminal.toNat
        ++ be 3 w.mask.sequence.toNat ++ [BitVec.ofNat 8 w.low.val, BitVec.ofNat 8 w.high.val, BitVec.ofNat 8 w.events.toNat] := by
  have hkind : w.kind.byte = match w.kind with | .key => 0 | .board => 1 | .range => 2 := by cases w.kind <;> rfl
  have hevents : w.events.zeroExtend 8 = BitVec.ofNat 8 w.events.toNat := BitVec.eq_of_toNat_eq (by simp)
  simp only [WatchUnit.bytes, keyBytes, ofNat_toNat_bool, hkind, hevents, List.append_assoc]
  
theorem pairByte_eq (s : State) :
    s.pairByte = if (s.unit 0).kind = .range then (if keyNumber (s.unit 1).value < keyNumber (s.unit 0).value then 3 else 1) else 0 := by
  rw [State.pairByte, State.paired, State.rangeEmpty]
  split_ifs with hpaired hempty
  · simp [hpaired, hempty, bitsByte, ofBits]
  · simp [hpaired, hempty, bitsByte, ofBits]
  · simp [hpaired, bitsByte, ofBits]

theorem statusByte_eq (t : SelfTest) :
    t.statusByte = BitVec.ofNat 8 (t.running.toNat * 2 ^ 0 + t.inject.toNat * 2 ^ 1
      + (match t.phase with | .none => 0 | .waiting => 1 | .memory => 2) * 4
      + (match t.result with | .none => 0 | .pass => 1 | .fail => 2 | .aborted => 3) * 16) := by
  have hphase : t.phase.number = match t.phase with | .none => 0 | .waiting => 1 | .memory => 2 := by cases t.phase <;> rfl
  have hresult : t.result.number = match t.result with | .none => 0 | .pass => 1 | .fail => 2 | .aborted => 3 := by
    cases t.result <;> rfl
  rw [SelfTest.statusByte, hphase, hresult]
  congr 1
  omega

/-- Settles O26: the status requests answer what stands, byte for byte, and change nothing. -/
theorem statusRequestsChangeNothing : Obligations.StatusRequestsChangeNothing := by
  refine ⟨fun s tag x hr => ⟨fun b hb => ?board, fun p hp => ?device, devicePart_isSome s _, fun h => ?noPart, fun p hp => ?group,
    groupReport_isSome s _, fun h => ?noGroup, exec_answered rfl hr rfl⟩, ?boardBytes, ?part0, ?part1, ?part2, ?groupBytes, ?codes⟩
  case board =>
    refine exec_answered rfl hr ?_
    simp [serve, serveBoard, (toBd_some x b).2 hb]
  case device =>
    refine exec_answered rfl hr ?_
    simp [serve, serveDevice, hp]
  case noPart =>
    refine exec_answered rfl hr ?_
    simp [serve, serveDevice, devicePart_eq_none h, State.outOfRange]
  case group =>
    refine exec_answered rfl hr ?_
    simp [serve, serveGetgroup, hp]
  case noGroup =>
    refine exec_answered rfl hr ?_
    simp [serve, serveGetgroup, groupReport_eq_none h, State.outOfRange]
  case boardBytes =>
    intro s b x l bit time
    have hflags : ofBits [x.baseline.isSome, x.graceEnd.isSome, x.stallExpiry.isSome, x.lastProgress.isSome, l.lastPulse.isSome,
          x.lostExpiry.isSome, x.verdictTime.isSome]
        = bit x.baseline.isSome 0 + bit x.graceEnd.isSome 1 + bit x.stallExpiry.isSome 2 + bit x.lastProgress.isSome 3
          + bit l.lastPulse.isSome 4 + bit x.lostExpiry.isSome 5 + bit x.verdictTime.isSome 6 := by
      simp only [ofBits_cons, ofBits_nil, bit]
      omega
    have hboth : ofBits [x.heard, x.pending] = bit x.heard 0 + bit x.pending 1 := by
      simp only [ofBits_cons, ofBits_nil, bit]
      omega
    rw [← hflags, ← hboth]
    rfl
  case part0 =>
    intro s bit valid flags conditions phase result c
    have hflags : ofBits [s.clamped, s.timebasePending, s.sweepRunning, s.halted, s.tableHighArmed, s.commonCause, !s.attnN, !s.faultN]
        = flags := by
      simp only [ofBits_cons, ofBits_nil, flags, bit]
      omega
    have hvalid : ofBits s.groups.valids = valid 0 + valid 1 + valid 2 + valid 3 + valid 4 + valid 5 + valid 6 + valid 7 + valid 8
        + valid 9 + valid 10 + valid 11 := by
      simp only [valid, bit, Groups.valids, ofBits_cons, ofBits_nil, List.getD_cons_zero, List.getD_cons_succ]
      omega
    have hconditions : ofBits s.faultConditions = conditions := by
      simp only [State.faultConditions, ofBits_cons, ofBits_nil, conditions, bit]
      show _ = (s.faultSilent).toNat * 2 ^ 0 + _ + _ + (!s.allValid).toNat * 2 ^ 3 + s.faultDamage.toNat * 2 ^ 4
      omega
    have hcauses : ofBits [c.group, c.compare, c.memory, c.injected] = bit c.group 0 + bit c.compare 1 + bit c.memory 2 + bit c.injected 3 := by
      simp only [ofBits_cons, ofBits_nil, bit]
      omega
    have htest : s.selfTest.statusByte = BitVec.ofNat 8 (bit s.selfTest.running 0 + bit s.selfTest.inject 1 + phase * 4 + result * 16) :=
      (statusByte_eq s.selfTest).trans rfl
    rw [← htest, ← hflags, ← hvalid, ← hconditions, ← hcauses]
    rfl
  case part1 =>
    intro s
    obtain ⟨order, hnodup, hmem, hsorted, hbytes⟩ := devicePart1_causes s
    rw [funext (causeByte_eq s)] at hbytes
    exact ⟨order, hnodup, hmem, hsorted, congrArg some hbytes⟩
  case part2 =>
    intro s unit paired empty
    have hunit (u : Fin 4) : (s.unit u).bytes = unit u := watchUnit_bytes _
    rw [State.devicePart, State.devicePart2, pairByte_eq]
    simp only [allUnits, List.flatMap_cons, List.flatMap_nil, hunit, List.append_nil, List.append_assoc]
    rfl
  case groupBytes =>
    intro s g v
    have hv (valid : Bool) : BitVec.ofNat 8 valid.toNat = v valid := ofNat_toNat_bool valid
    have hreport {α : Type} (number : Nat) (bytes : α → List Byte) (group : Group α) :
        groupPayload number bytes group = [BitVec.ofNat 8 number, v group.valid] ++ bytes group.fields := by
      rw [groupPayload, hv]
    refine ⟨?_, fun c => ?_, ?_, ?_, ?_, ?_, ?_, ?_, ?_⟩
    · exact congrArg some (hreport 0 Timebase.bytes g.timebase)
    · have hprofile : s.groupReport (1 + c.val) = some (groupPayload (1 + c.val) Profile.bytes (s.profile c)) := by
        fin_cases c <;> rfl
      rw [hprofile, hreport]
      simp [Profile.bytes]
    · simp [State.groupReport, hreport, Latency.bytes, g]
    · simp [State.groupReport, hreport, Weights.bytes, g]
    · simp [State.groupReport, hreport, Thresholds.bytes, g]
    · simp [State.groupReport, hreport, Heartbeat.bytes, g]
    · simp [State.groupReport, hreport, Guard.bytes, g]
    · simp [State.groupReport, hreport, TableSettings.bytes, g]
    · simp [State.groupReport, hreport, Masks.bytes, g]
  case codes => exact ⟨rfl, rfl, rfl⟩

end Sys2Proof.Machine

/-! SUPPORT. What a pulse and the boards' timers do: PULSE, LOST_EXPIRY, STALL_EXPIRY and GRACE_EXPIRY (R82, R102 to R109). -/

namespace Sys2Proof.Machine

/-! ## A timer that has not run out (R46) -/

theorem ranOut_eq_false {s : State} {e : Option Time} (h : ∀ t, e = some t → past s.clock t = false) : s.ranOut e = false := by
  cases e with
  | none => rfl
  | some t => exact h t rfl

/-! ## The events by the state of their board -/

theorem pulseEffect_of_warming {s : State} {b : Bd} (hb : (s.board b).state = .warming) : pulseEffect b s = s.countPulse b := by
  simp [pulseEffect, hb]

theorem pulseEffect_of_chargeable {s : State} {b : Bd} (hb : Chargeable (s.board b).state) :
    pulseEffect b s = if s.races b then (s.countPulse b).charge b .racing else s.countPulse b := by
  rcases hb with hb | hb <;> simp [pulseEffect, hb]

theorem pulseEffect_of_not_inService {s : State} {b : Bd} (hb : ¬ InService (s.board b).state) : pulseEffect b s = s := by
  cases hst : (s.board b).state <;> simp_all [InService, pulseEffect]

theorem lostExpiryEffect_of_ranOut {s : State} {b : Bd} (h : s.ranOut (s.board b).lostExpiry = true) :
    lostExpiryEffect b s = (s.rearmLost b).charge b .lost := by
  simp [lostExpiryEffect, h]

theorem stallExpiryEffect_of_ranOut {s : State} {b : Bd} (h : s.ranOut (s.board b).stallExpiry = true) :
    stallExpiryEffect b s = if s.halted then s.rearmStall b else (s.rearmStall b).charge b .stall := by
  simp [stallExpiryEffect, h]

theorem lostExpiryEffect_idle {s : State} {b : Bd} (h : s.ranOut (s.board b).lostExpiry = false) : lostExpiryEffect b s = s := by
  simp [lostExpiryEffect, h]

theorem stallExpiryEffect_idle {s : State} {b : Bd} (h : s.ranOut (s.board b).stallExpiry = false) : stallExpiryEffect b s = s := by
  simp [stallExpiryEffect, h]

/-! ## The statements -/

/-- Settles O51: grace expires. -/
theorem graceExpires : Obligations.GraceExpires := by
  intro s b e hr hb he hpast
  rw [exec_clockEffect hr rfl]
  have hran : s.ranOut (s.board b).graceEnd = true := by rw [he]; exact hpast
  rw [graceExpiryEffect, if_pos ⟨hb, hran⟩, expireGrace_eq s b hb]
  rfl

/-- Settles O52: a pulse is counted, and charged RACING when it comes too early. -/
theorem pulseCounted : Obligations.PulseCounted := by
  intro s b hr counted
  have hcounted : s.countPulse b = counted := rfl
  refine ⟨fun hb => ?warming, fun hb => ⟨fun harmed => ?unmeasured, fun last harmed hlast => ?measured⟩, fun hb => ?outOfService⟩
    <;> rw [exec_clockEffect hr rfl]
  case warming => rw [pulseEffect_of_warming hb, hcounted]
  case unmeasured => simp [pulseEffect_of_chargeable hb, State.races, harmed, hcounted]
  case measured => simp [pulseEffect_of_chargeable hb, State.races, harmed, hlast, hcounted]
  case outOfService => rw [pulseEffect_of_not_inService hb]

/-- Settles O53: the lost and the stall timer run out. -/
theorem lostAndStallTimersExpire : Obligations.LostAndStallTimersExpire := by
  refine ⟨fun s b hr => ⟨fun e he hpast => ?lost, fun hlater => ?noLost⟩, fun s b hr => ⟨fun e he hpast => ?stall, fun hlater => ?noStall⟩⟩
  case lost =>
    intro u
    have hran : s.ranOut (s.board b).lostExpiry = true := by rw [he]; exact hpast
    have hexec : exec (.lostExpiry b) s = .next (u.charge b .lost).driveLines := by
      rw [exec_clockEffect hr rfl, lostExpiryEffect_of_ranOut hran]
      rfl
    have hstate : (u.board b).state = (s.board b).state := by
      have hread := (rearmLost_reads s b b).1
      rw [if_pos rfl] at hread
      exact (congrArg Board.state hread :)
    refine ⟨fun hb => ?_, fun _ => hexec⟩
    rw [hexec, charge_of_not_chargeable _ (by simp [hstate, hb, Chargeable])]
  case noLost => rw [exec_clockEffect hr rfl, lostExpiryEffect_idle (ranOut_eq_false hlater)]
  case stall =>
    intro u
    have hran : s.ranOut (s.board b).stallExpiry = true := by rw [he]; exact hpast
    have hu : s.rearmStall b = u := rfl
    refine ⟨fun hhalted => ?_, fun hhalted _ => ?_⟩ <;>
      rw [exec_clockEffect hr rfl, stallExpiryEffect_of_ranOut hran] <;> simp [hhalted, hu]
  case noStall => rw [exec_clockEffect hr rfl, stallExpiryEffect_idle (ranOut_eq_false hlater)]

end Sys2Proof.Machine

/-! SUPPORT. A TU ends and a pass starts (R44 to R46, R48 to R51). -/

namespace Sys2Proof.Machine

/-! ## The past test (R46) -/

theorem past_iff (t d : Time) : past t d = true ↔ ∃ k, k < 2 ^ 31 ∧ t = d + BitVec.ofNat 32 k := by
  simp only [past, decide_eq_true_eq]
  constructor
  · intro h
    refine ⟨(t - d).toNat, h, ?_⟩
    rw [BitVec.ofNat_toNat, BitVec.setWidth_eq]
    bv_omega
  · rintro ⟨k, hk, rfl⟩
    bv_omega

/-! ## The sweep's events at the end of a TU -/

theorem sweepOut_succ (k : Nat) (s : State) :
    State.sweepOut (k + 1) s =
      if s.passStartDue then State.sweepOut k (passStartEffect s)
      else if s.visitDue then State.sweepOut k (sweepVisitEffect s)
      else s := rfl

/-- With rounds enough for what is left, one more round finds nothing to do. -/
theorem sweepOut_succ_of_left {k : Nat} {s : State} (hs : s.SweepWf) (hk : s.sweepLeft ≤ k) :
    State.sweepOut (k + 1) s = State.sweepOut k s := by
  induction k generalizing s with
  | zero => exact absurd (sweepLeft_pos hs) (by omega)
  | succ k ih =>
    rw [sweepOut_succ (k + 1) s, sweepOut_succ k s]
    split
    next hp =>
      have hstart : passStartEffect s = s.startPass := if_pos hp
      have hwf : s.startPass.SweepWf := (sweepWf_iff _).1 ((opKept_sweep False).startPass s hp ((sweepWf_iff s).2 hs))
      have hleft := passStartDue_left hp
      rw [hstart]
      exact ih hwf (by rw [startPass_left]; omega)
    next =>
      split
      next hv =>
        have hwf := (sweepWf_iff _).1 ((opKept_sweep False).sweepVisitEffect s ((sweepWf_iff s).2 hs))
        rcases sweepVisitEffect_left hs hv with hlt | hidle
        · exact ih hwf (by omega)
        · rw [sweepOut_idle _ _ hidle.1 hidle.2, sweepOut_idle _ _ hidle.1 hidle.2]
      next => rfl

/-- A pass start taken by its command before the TU ends is one that the end of the TU takes itself. -/
theorem endTu_passStartEffect {s : State} (hs : s.SweepWf) : (passStartEffect s).endTu = s.endTu := by
  by_cases hp : s.passStartDue = true
  · have hstart : passStartEffect s = s.startPass := if_pos hp
    have hwf : s.startPass.SweepWf := (sweepWf_iff _).1 ((opKept_sweep False).startPass s hp ((sweepWf_iff s).2 hs))
    have hround : State.sweepOut (Config.recordSlots + 1) s = State.sweepOut Config.recordSlots s.startPass := by
      rw [sweepOut_succ, if_pos hp, hstart]
    rw [endTu_eq, endTu_eq, hround, hstart, sweepOut_succ_of_left hwf (startPass_left s).le]
  · rw [passStartEffect, if_neg hp]

/-- A visit taken by its command before the TU ends is one that the end of the TU takes itself. -/
theorem endTu_sweepVisitEffect {s : State} (hs : s.SweepWf) : (sweepVisitEffect s).endTu = s.endTu := by
  by_cases hv : s.visitDue = true
  · have hp : ¬ s.passStartDue = true := by
      intro hp
      cases hpass : s.pass <;> simp_all [State.passStartDue, State.visitDue]
    have hwf := (sweepWf_iff _).1 ((opKept_sweep False).sweepVisitEffect s ((sweepWf_iff s).2 hs))
    have hround : State.sweepOut (Config.recordSlots + 1) s = State.sweepOut Config.recordSlots (sweepVisitEffect s) := by
      rw [sweepOut_succ, if_neg hp, if_pos hv]
    rw [endTu_eq, endTu_eq, hround]
    rcases sweepVisitEffect_left hs hv with hlt | hidle
    · have hle := sweepLeft_le s
      rw [sweepOut_succ_of_left hwf (by omega)]
    · rw [sweepOut_idle _ _ hidle.1 hidle.2, sweepOut_idle _ _ hidle.1 hidle.2]
  · have heffect : sweepVisitEffect s = s := by
      unfold sweepVisitEffect
      split
      · rfl
      · exact if_neg hv
    rw [heffect]

/-! ## When the sweep is idle -/

/-- The sweep is idle when it is STOPPED, when its pass start is awaited for another TU, and when its visit is. -/
theorem sweepIdle_of {s : State}
    (h : s.sweepRunning = false ∨ (∃ due, s.pass = .awaiting due ∧ s.clock ≠ due)
      ∨ ∃ began, s.pass = .running began ∧ s.clock ≠ began + BitVec.ofNat 32 (s.sweepPosition / (64 * 2 ^ s.effectiveVpt))) :
    s.SweepIdle := by
  rcases h with hrun | ⟨due, hpass, hne⟩ | ⟨began, hpass, hne⟩
  · simp [State.SweepIdle, State.passStartDue, State.visitDue, hrun]
  · exact SweepIdle_of_awaiting hpass hne
  · have hvisit : s.clock ≠ s.visitTime began := hne
    simp [State.SweepIdle, State.passStartDue, State.visitDue, hpass, hvisit]

/-- Settles O46: the clock's step, what is taken before it, and the past test. -/
theorem clockAndPastTest : Obligations.ClockAndPastTest := by
  refine ⟨fun s hr => ?step, fun t => ?wrap, fun s hpre => ?periods, past_iff⟩
  case step =>
    intro sweepIdle timersIdle
    obtain ⟨-, -, -, -, -, -, hclock, -⟩ := clockFrame_endTu s
    have heffect : tuStepEffect s = { s.endTu with clock := s.clock + 1 } := by rw [tuStepEffect, State.tick, hclock]
    have htu : exec .tuStep s = .next (tuStepEffect s).driveLines := exec_clockEffect hr rfl
    rw [heffect] at htu
    refine ⟨htu, fun hsweep htimers => ?_, fun hsweep => ?_, fun hs => ⟨endTu_passStartEffect hs, endTu_sweepVisitEffect hs⟩,
      exec_clockEffect hr rfl, exec_clockEffect hr rfl,
      fun b => ⟨exec_clockEffect hr rfl, exec_clockEffect hr rfl, exec_clockEffect hr rfl⟩⟩
    · obtain ⟨hp, hv⟩ := sweepIdle_of hsweep
      have hidle : s.endTu = s := endTu_idle s hp hv fun b => by
        obtain ⟨hgrace, hlost, hstall⟩ := htimers b
        exact ⟨fun hb => ranOut_eq_false (hgrace hb), ranOut_eq_false hlost, ranOut_eq_false hstall⟩
      rw [htu, hidle]
    · obtain ⟨hp, hv⟩ := sweepIdle_of hsweep
      rw [endTu_eq, sweepOut_idle _ s hp hv]
      rfl
  case wrap =>
    split <;> bv_omega
  case periods =>
    have hcase : s.prescale = 0 ∨ s.prescale = 1 ∨ s.prescale = 2 ∨ s.prescale = 3 := by omega
    rcases hcase with h | h | h | h <;> simp [State.tuPeriods, prescalePeriods, h]

end Sys2Proof.Machine

/-! SUPPORT. A pass start and the visit rate it settles (R48, R50, R51). -/

namespace Sys2Proof.Machine

/-! ## The visit rate (R51) -/

theorem passPeriod_values : passPeriod 0 = 128 ∧ passPeriod 1 = 64 ∧ passPeriod 2 = 32 ∧ passPeriod 3 = 16 ∧ passPeriod 4 = 8
    ∧ passPeriod 5 = 4 := ⟨rfl, rfl, rfl, rfl, rfl, rfl⟩

theorem passPeriod_antitone {c e : Nat} (hce : c ≤ e) : passPeriod e ≤ passPeriod c :=
  Nat.div_le_div_left (Nat.mul_le_mul_left 64 (Nat.pow_le_pow_right (by omega) hce)) (by unfold visitRate; positivity)

/-- The slowest rate whose period is within the limit; code 5 when none of the others is. -/
def slowestFitting (limit : Nat) : Nat := ([0, 1, 2, 3, 4].find? fun c => decide (passPeriod c ≤ limit)).getD 5

theorem settledVpt_some (configured fMin : Nat) :
    settledVpt configured (some fMin) = if passPeriod configured ≤ fMin / 2 then configured else slowestFitting (fMin / 2) := rfl

theorem slowestFitting_eq (limit : Nat) :
    slowestFitting limit =
      if 128 ≤ limit then 0 else if 64 ≤ limit then 1 else if 32 ≤ limit then 2 else if 16 ≤ limit then 3
      else if 8 ≤ limit then 4 else 5 := by
  obtain ⟨h0, h1, h2, h3, h4, -⟩ := passPeriod_values
  simp only [slowestFitting, List.find?_cons, List.find?_nil, h0, h1, h2, h3, h4]
  split_ifs <;> simp [*]

theorem slowestFitting_le (limit : Nat) : slowestFitting limit ≤ 5 := by
  rw [slowestFitting_eq]
  split_ifs <;> omega

/-- The period of the slowest rate that fits is within a limit of at least 4, and no slower rate's is. -/
theorem slowestFitting_fits {limit : Nat} (h : 4 ≤ limit) :
    passPeriod (slowestFitting limit) ≤ limit ∧ ∀ c, c < slowestFitting limit → limit < passPeriod c := by
  obtain ⟨h0, h1, h2, h3, h4, h5⟩ := passPeriod_values
  rw [slowestFitting_eq]
  split_ifs <;> refine ⟨by omega, fun c hc => ?_⟩ <;> interval_cases c <;> omega

/-- A rate whose period does not fit is not slower than the slowest that does. -/
theorem le_slowestFitting {configured limit : Nat} (hle : configured ≤ 5) (h : limit < passPeriod configured) :
    configured ≤ slowestFitting limit := by
  obtain ⟨h0, h1, h2, h3, h4, h5⟩ := passPeriod_values
  rw [slowestFitting_eq]
  split_ifs <;> interval_cases configured <;> omega

/-! ## The least AUTH_FLOOR of the valid profiles (R51) -/

theorem mem_validFloors (g : Groups) (m : Nat) :
    m ∈ (g.profiles.toList.filter (·.valid)).map (fun p => p.fields.authFloor.toNat)
      ↔ ∃ c : Fin 4, (g.profiles[c.val]).valid = true ∧ (g.profiles[c.val]).fields.authFloor.toNat = m := by
  simp only [List.mem_map, List.mem_filter, Vector.mem_toList_iff, Vector.mem_iff_getElem]
  constructor
  · rintro ⟨p, ⟨⟨i, hi, rfl⟩, hvalid⟩, hfloor⟩
    exact ⟨⟨i, hi⟩, hvalid, hfloor⟩
  · rintro ⟨c, hvalid, hfloor⟩
    exact ⟨_, ⟨⟨c.val, c.isLt, rfl⟩, hvalid⟩, hfloor⟩

theorem leastFloor_eq_none (g : Groups) : g.leastFloor = none ↔ ∀ c : Fin 4, (g.profiles[c.val]).valid = false := by
  rw [Groups.leastFloor, List.min?_eq_none_iff, List.eq_nil_iff_forall_not_mem]
  simp only [mem_validFloors, not_exists, not_and]
  constructor
  · exact fun h c => Bool.eq_false_iff.2 fun hvalid => h _ c hvalid rfl
  · exact fun h m c hvalid => absurd hvalid (by simp [h c])

theorem leastFloor_eq_some (g : Groups) (m : Nat) :
    g.leastFloor = some m ↔
      (∃ c : Fin 4, (g.profiles[c.val]).valid = true ∧ (g.profiles[c.val]).fields.authFloor.toNat = m)
        ∧ ∀ c : Fin 4, (g.profiles[c.val]).valid = true → m ≤ (g.profiles[c.val]).fields.authFloor.toNat := by
  rw [Groups.leastFloor, List.min?_eq_some_iff, mem_validFloors]
  refine and_congr_right fun _ => ?_
  simp only [mem_validFloors]
  exact ⟨fun h c hvalid => h _ ⟨c, hvalid, rfl⟩, fun h _ ⟨c, hvalid, hfloor⟩ => hfloor ▸ h c hvalid⟩

/-- Settles O48: the effective visit rate. -/
theorem visitRateSettled : Obligations.VisitRateSettled := by
  refine ⟨fun _ => rfl, fun _ _ h => if_pos h, fun configured fMin hle hlimit hfit => ?fits, fun configured fMin hle hlimit => ?none,
    fun configured fMin hle => ?faster, rfl, rfl, rfl, rfl, rfl, rfl, fun g => ⟨leastFloor_eq_none g, leastFloor_eq_some g⟩⟩
  case fits =>
    intro e
    have he : e = slowestFitting (fMin / 2) := if_neg (Nat.not_le.2 hlimit)
    rw [he]
    exact ⟨slowestFitting_le _, slowestFitting_fits hfit⟩
  case none =>
    have hperiod := passPeriod_antitone hle
    obtain ⟨-, -, -, -, -, h5⟩ := passPeriod_values
    rw [settledVpt_some, if_neg (by omega), slowestFitting_eq]
    split_ifs <;> omega
  case faster =>
    cases fMin with
    | none => exact Nat.le_refl configured
    | some m =>
      rw [settledVpt_some]
      split_ifs with h
      · exact Nat.le_refl configured
      · exact le_slowestFitting hle (Nat.not_le.1 h)

/-! ## A pass start (R48, R50) -/

theorem takeUpTimebase_keeps (s : State) :
    s.takeUpTimebase.selfTest = s.selfTest ∧ s.takeUpTimebase.clock = s.clock := by
  unfold State.takeUpTimebase
  split <;> exact ⟨rfl, rfl⟩

theorem verifyGroups_keeps (s : State) :
    s.verifyGroups.selfTest = s.selfTest ∧ s.verifyGroups.clock = s.clock ∧ s.verifyGroups.configuredVpt = s.configuredVpt := by
  rw [verifyGroups_eq]
  exact ⟨rfl, rfl, rfl⟩

theorem beginMemoryPhase_eq (s : State) :
    s.beginMemoryPhase =
      { s with selfTest := if s.selfTest.phase = .waiting then { s.selfTest with phase := .memory } else s.selfTest } := by
  unfold State.beginMemoryPhase
  split_ifs <;> rfl

/-- Settles O47: a pass start that is due, and one that is not. -/
theorem passStarts : Obligations.PassStarts := by
  intro s hr
  refine ⟨fun hrun hpass => ?_, fun hidle => ?_⟩
  · intro f taken v rate
    have htaken : s.takeUpTimebase = taken := rfl
    have hdue : s.passStartDue = true := by simp [State.passStartDue, hrun, hpass]
    obtain ⟨hselfTest, hclock, hvpt⟩ : v.selfTest = taken.selfTest ∧ v.clock = taken.clock ∧ v.configuredVpt = taken.configuredVpt :=
      verifyGroups_keeps taken
    obtain ⟨hselfTest', hclock'⟩ : taken.selfTest = s.selfTest ∧ taken.clock = s.clock := takeUpTimebase_keeps s
    have hsettled : v.settleRate = { v with effectiveVpt := rate, clamped := decide (rate ≠ taken.configuredVpt) } := by
      rw [State.settleRate, hvpt]
    rw [exec_clockEffect hr rfl, passStartEffect, if_pos hdue, State.startPass, htaken]
    show Host.Outcome.next { v.settleRate.beginMemoryPhase with
      sweepPosition := 0, pass := .running v.settleRate.beginMemoryPhase.clock }.driveLines = _
    rw [beginMemoryPhase_eq, hsettled]
    dsimp only
    rw [hselfTest, hclock, hselfTest', hclock']
  · have hdue : s.passStartDue = false := by
      rcases hidle with hrun | hpass
      · simp [State.passStartDue, hrun]
      · cases hp : s.pass with
        | awaiting due =>
          have hne : s.clock ≠ due := fun heq => hpass (heq ▸ hp)
          simp [State.passStartDue, hp, hne]
        | running began => simp [State.passStartDue, hp]
    rw [exec_clockEffect hr rfl, passStartEffect, hdue]
    rfl

end Sys2Proof.Machine

/-! SUPPORT. What a visit of the Aging Sweep does to its slot (R49 to R54, R152, R158). -/

namespace Sys2Proof.Machine

/-! ## A visit that is due and one that is not (R49) -/

theorem sweepVisitEffect_of_due {s : State} {began : Time} (hrun : s.sweepRunning = true) (hpass : s.pass = .running began)
    (hclock : s.clock = began + BitVec.ofNat 32 (s.sweepPosition / (64 * 2 ^ s.effectiveVpt))) :
    sweepVisitEffect s = State.afterVisit began (s.visitSlot s.sweepPosition) := by
  have hdue : s.visitDue = true := by
    have hvisit : s.clock = s.visitTime began := hclock
    simp [State.visitDue, hrun, hpass, ← hvisit]
  simp only [sweepVisitEffect, hpass, if_pos hdue, sweepVisit_eq]

theorem sweepVisitEffect_of_not_due {s : State} (h : s.visitDue = false) : sweepVisitEffect s = s := by
  unfold sweepVisitEffect
  split
  · rfl
  · simp [h]

theorem exec_sweepVisit_due {s : State} {began : Time} {t : State} (hr : s.resetHeld = false) (hrun : s.sweepRunning = true)
    (hpass : s.pass = .running began)
    (hclock : s.clock = began + BitVec.ofNat 32 (s.sweepPosition / (64 * 2 ^ s.effectiveVpt)))
    (hslot : s.visitSlot s.sweepPosition = t) : exec .sweepVisit s = .next (State.afterVisit began t).driveLines := by
  rw [exec_clockEffect hr rfl, sweepVisitEffect_of_due hrun hpass hclock, hslot]

/-! ## The slot visited (R52) -/

theorem visitSlot_of_record {s : State} {n : Nat} {st : Stage} {b : Bd} {p : Payload} {parity : Bool}
    (h : s.slot n = some (.record st b p parity)) : s.visitSlot n = s.visitRecord n st b p parity := by
  simp only [State.visitSlot, h]

theorem visitSlot_of_damaged {s : State} {n : Nat} {x : Slot} (h : s.slot n = some x) (hx : x.isDamaged = true) :
    s.visitSlot n = s := by
  cases x with
  | record st b p parity => exact absurd hx Bool.false_ne_true
  | damaged b p parity => simp only [State.visitSlot, h]
  | unattributed => simp only [State.visitSlot, h]

theorem visitSlot_of_free {s : State} {n : Nat} (h : s.slot n = none) :
    s.visitSlot n = if s.selfTest.phase = .memory then s.testFreeSlot n else s := by
  simp only [State.visitSlot, h]

/-! ## A record marked overdue (R53) -/

theorem marked_eq (p : Payload) (st : Stage) (now : Time) (excused : Bool) :
    p.marked st now excused =
      { p with
        overdue := some ⟨now, excused⟩
        lateAuth := p.lateAuth || decide (st = .lodged), lateSettle := p.lateSettle || decide (st = .decided) } := by
  cases st <;> simp [Payload.marked]

theorem markOverdue_eq (s : State) (n : Nat) (st : Stage) (b : Bd) {p q : Payload}
    (hq : p.marked st s.clock (decide ((s.board b).state = .warming)) = q) :
    s.markOverdue n st b p =
      State.charge
        { s with
          slots := mapPut n (.record st b q (parityOf q)) s.slots
          latches := (s.offer .overdue n b p.key p.watchSet).latches } b st.evidence := by
  have hkey : q.key = p.key ∧ q.watchSet = p.watchSet := by
    rw [← hq, marked_eq]
    exact ⟨rfl, rfl⟩
  rw [State.markOverdue, hq, hkey.1, hkey.2, offer_eq, offer_latches_congr (s := s) (t := s.writeRecord n st b q) rfl rfl rfl]
  rfl

theorem visitRecord_of_overdue {s : State} {n : Nat} {st : Stage} {b : Bd} {p : Payload} {parity : Bool}
    (hclean : readsClean p parity = true) (hindex : s.lookupKey p.key = some n) (hb : InService (s.board b).state)
    (hunmarked : p.overdue = none) (hpast : past s.clock p.deadline = true) :
    s.visitRecord n st b p parity = s.markOverdue n st b p := by
  simp [State.visitRecord, hclean, hindex, (isActive_iff _).2 hb, hunmarked, hpast]

/-- Settles O49: the visits of records, DAMAGED slots and FREE slots outside the memory phase, and a visit that is not due. -/
theorem visitsOfRecords : Obligations.VisitsOfRecords := by
  refine ⟨?overdue, fun s began hr hrun hpass _ hclock => ?others, fun s hr hidle => ?idle⟩
  case overdue =>
    intro s began st b p parity hr hrun hpass _ hclock hslot hclean hindex hb hunmarked hpast n q u kind v
    refine exec_sweepVisit_due hr hrun hpass hclock ?_
    have hmarked : p.marked st s.clock (decide ((s.board b).state = .warming)) = q := marked_eq p st _ _
    have hkind : st.evidence = kind := by cases st <;> rfl
    rw [visitSlot_of_record hslot, visitRecord_of_overdue hclean hindex hb hunmarked hpast, markOverdue_eq s n st b hmarked, hkind]
    show u.charge b kind = v
    simp only [v]
    split_ifs with hwarming
    · exact charge_of_not_chargeable kind (by simp [show (u.board b).state = .warming from hwarming, Chargeable])
    · rfl
  case others =>
    intro n passed
    have hpassed {t : State} (h : s.visitSlot n = t) : passed t := exec_sweepVisit_due hr hrun hpass hclock h
    refine ⟨fun x hslot hx => hpassed (visitSlot_of_damaged hslot hx), fun hslot hphase => hpassed ?_,
      fun st b p parity hslot => ⟨fun hbad => hpassed ?_, fun hclean hindex => hpassed ?_, fun hclean hindex hrest => hpassed ?_⟩⟩
    · rw [visitSlot_of_free hslot, if_neg hphase]
    all_goals rw [visitSlot_of_record hslot, State.visitRecord]
    · simp [hbad]
    · simp [hclean, hindex]
    · rcases hrest with hb | hmarked | hearly
      · simp [hclean, hindex, hb, BoardState.isActive]
      · simp [hclean, hindex, Option.isNone_eq_false_iff.2 (Option.isSome_iff_ne_none.2 hmarked)]
      · simp [hclean, hindex, hearly]
  case idle =>
    have hdue : s.visitDue = false := by
      rcases hidle with hrun | ⟨due, hpass⟩ | ⟨began, hpass, hne⟩
      · simp [State.visitDue, hrun]
      · simp [State.visitDue, hpass]
      · have hvisit : s.clock ≠ s.visitTime began := hne
        simp [State.visitDue, hpass, hvisit]
    rw [exec_clockEffect hr rfl, sweepVisitEffect_of_not_due hdue]

/-! ## A FREE slot in the memory phase (R8, R158) -/

theorem testFreeSlot_of_readsBack {s : State} {n : Nat}
    (h : Config.patternReadsBack s.freeValues n false = true ∧ Config.patternReadsBack s.freeValues n true = true) :
    s.testFreeSlot n = { s with freeValues := s.freeValues + 1 } := by
  simp [State.testFreeSlot, h]

theorem testFreeSlot_of_failed {s : State} {n : Nat}
    (h : ¬ (Config.patternReadsBack s.freeValues n false = true ∧ Config.patternReadsBack s.freeValues n true = true)) :
    s.testFreeSlot n = { State.damageFree { s with freeValues := s.freeValues + 1 } n with
      selfTest := { s.selfTest with memoryFailures := s.selfTest.memoryFailures + 1 } } := by
  have hfail : (Config.patternReadsBack s.freeValues n false && Config.patternReadsBack s.freeValues n true) = false := by
    rw [Bool.eq_false_iff, Ne, Bool.and_eq_true]
    exact h
  simp [State.testFreeSlot, hfail]

/-- A visit to a FREE slot counts memory failures and changes nothing else of the test, and nothing of the sweep. -/
theorem testFreeSlot_keeps (s : State) (n : Nat) :
    (∃ failures, (s.testFreeSlot n).selfTest = { s.selfTest with memoryFailures := failures })
      ∧ (s.testFreeSlot n).sweepPosition = s.sweepPosition ∧ (s.testFreeSlot n).effectiveVpt = s.effectiveVpt
      ∧ (s.testFreeSlot n).halted = s.halted := by
  by_cases h : Config.patternReadsBack s.freeValues n false = true ∧ Config.patternReadsBack s.freeValues n true = true
  · rw [testFreeSlot_of_readsBack h]
    exact ⟨⟨_, rfl⟩, rfl, rfl, rfl⟩
  · rw [testFreeSlot_of_failed h, damageFree_eq]
    exact ⟨⟨_, rfl⟩, rfl, rfl, rfl⟩

/-- The visit to slot 8191 in a memory phase that is not stopped ends the pass and the test (R50, R158). -/
theorem afterVisit_of_testEnd (began : Time) {t : State} (hpos : t.sweepPosition = 8191) (hphase : t.selfTest.phase = .memory)
    (hhalted : t.halted = false) :
    let causes : TestCauses := { t.selfTest.causes with memory := decide (0 < t.selfTest.memoryFailures) }
    let result : TestResult := if causes = ⟨false, false, false, false⟩ then .pass else .fail
    State.afterVisit began t =
      { t with
        sweepPosition := 0, pass := .awaiting (began + BitVec.ofNat 32 (8192 / (64 * 2 ^ t.effectiveVpt)))
        selfTest := { t.selfTest with running := false, phase := .none, result := result, causes := causes }
        latches := { t.latches with testDone := some (match t.latches.testDone with
          | none => ⟨t.clock, result, causes⟩
          | some l => ⟨l.time, result, causes⟩) } } := by
  intro causes result
  rw [State.afterVisit, if_neg (by omega)]
  exact if_pos ⟨hphase, hhalted⟩

/-- Settles O50: the memory phase's visits to FREE slots, and the ends of a pass and of a test. -/
theorem memoryPhaseVisits : Obligations.MemoryPhaseVisits := by
  intro s began hr hrun hpass hclock hfree n
  refine ⟨fun _ hphase => ?tested, fun hlast hphase => ?passEnds, fun hlast hphase hhalted => ?testEnds⟩
  case tested =>
    intro kept high lost readsBack
    refine exec_sweepVisit_due hr hrun hpass hclock ?_
    rw [visitSlot_of_free hfree, if_pos hphase]
    split_ifs with h
    · exact testFreeSlot_of_readsBack h
    · rw [testFreeSlot_of_failed h, damageFree_eq]
      have harmed : (s.tableHighArmed && !decide (s.highMark ≤ s.occupancy + 1)) = if high then false else s.tableHighArmed := by
        by_cases hhigh : high
        · simp [hhigh, hhigh.2]
        · rw [if_neg hhigh]
          cases hset : s.tableHighArmed
          · rfl
          · simpa [high, hset] using hhigh
      simp only [lost]
      rw [← harmed]
      rfl
  case passEnds =>
    rw [exec_sweepVisit_due hr hrun hpass hclock (visitSlot_of_free hfree), if_neg hphase]
    simp [State.afterVisit, hphase, show s.sweepPosition = 8191 from hlast]
    rfl
  case testEnds =>
    obtain ⟨⟨failures, hselfTest⟩, hpos, hvpt, hhalted'⟩ := testFreeSlot_keeps s n
    have hphase' : (s.testFreeSlot n).selfTest.phase = .memory := by rw [hselfTest, hphase]
    have hend := afterVisit_of_testEnd began (hpos.trans hlast) hphase' (hhalted'.trans hhalted)
    have hvisit : s.visitSlot n = s.testFreeSlot n := (visitSlot_of_free hfree).trans (if_pos hphase)
    refine ⟨_, exec_sweepVisit_due hr hrun hpass hclock hvisit, ?_⟩
    rw [hend]
    refine ⟨rfl, ?_, rfl, rfl, decide_eq_true_iff, ?_, rfl, ?_⟩
    · show Pass.awaiting _ = _
      rw [hvpt]
      rfl
    · show ({ (s.testFreeSlot n).selfTest.causes with memory := _ } : TestCauses) = _
      rw [hselfTest]
    · refine ⟨_, rfl, ?_⟩
      cases (s.testFreeSlot n).latches.testDone <;> exact ⟨rfl, rfl⟩

end Sys2Proof.Machine
